-- ==== Sys2Proof/Word.lean ====
section
/-! DEFINITION. Word: the two bit-vector types of the machine. General registers and memory bytes are 8 bits
(00_scope.md R10), SP, PC, register pairs and addresses 16 bits (R10, R11). Arithmetic on them wraps. -/

namespace Sys2Proof

/-- An 8-bit register value or memory byte (00_scope.md R10). -/
abbrev Byte := BitVec 8

/-- A 16-bit register value, register pair or address (00_scope.md R10, R11). -/
abbrev Word := BitVec 16

end Sys2Proof
end

