-- ==== Sys2Proof/Config.lean ====
section
/-! DEFINITION. Config: what the spec leaves to an implementation. The one open parameter that a rule reads is
`RomWritePolicy` (00_scope.md R13, 92_eei_decisions.md D14). `TraceFormat` (D28) is read by no rule. -/

namespace Sys2Proof

/-- 00_scope.md R13: what a write to 0x0000–0x7FFF does; the behaviour under each value is 20_memory.md R76. -/
inductive RomWritePolicy where
  | ignore
  | fault
deriving DecidableEq, Repr, Inhabited

/-- The machine's configuration, which no step changes (10_state.md R56): the value of the parameter is the argument
of `State.construct`, `boot` and `run` (log entry 2). -/
structure Config where
  romWritePolicy : RomWritePolicy
deriving DecidableEq, Repr

/-- The value of the parameter that the spec leaves OPEN (00_scope.md R13), where the host's interface takes no
argument: it has no body, so a claim about a machine that uses it holds for both values (log entry 2). -/
opaque Config.openRomWritePolicy : RomWritePolicy

end Sys2Proof
end

