-- ==== Sys2Proof/Machine/State.lean ====
section
/-! DEFINITION. State: everything the spec gives the machine, as plain data, and its value at construction
(10_state.md; 20_memory.md R71; 70_reset_and_hazards.md R250 to R252). -/

namespace Sys2Proof.Machine

/-- The eight 8-bit registers (10_state.md R40). F holds the flags in its high nibble (R42, R45). -/
structure RegFile where
  a : Byte
  f : Byte
  b : Byte
  c : Byte
  d : Byte
  e : Byte
  h : Byte
  l : Byte
deriving DecidableEq, Repr

/-- The access kind of a memory fault (60_exceptions.md R224). -/
inductive Access where
  | read
  | write
deriving DecidableEq, Repr

/-- The fault record (60_exceptions.md R225). -/
inductive FaultRecord where
  /-- the pc of the instruction and its one or two opcode bytes (R221, R222) -/
  | decodeFault (pc : Word) (bytes : List Byte)
  /-- the pc of the instruction, the offending address and the access (R223) -/
  | memoryFault (pc : Word) (addr : Word) (access : Access)
deriving DecidableEq, Repr

/-- The run status (10_state.md R50). -/
inductive Status where
  | running
  | faulted (record : FaultRecord)
  | stopped
deriving DecidableEq, Repr

/-- The bytes of the address space, sparse: (address, byte) pairs in the canonical form `Memory.wf`. An address that is
not listed reads 0x00 (`Memory.unlisted`). -/
abbrev Memory := List Host.Cell

/-- The machine's state (10_state.md §1). -/
structure State where
  /-- A, F, B, C, D, E, H, L (R40) -/
  regs : RegFile
  /-- the stack pointer (R48) -/
  sp : Word
  /-- the program counter; during an instruction it holds pc_insn (R49) -/
  pc : Word
  /-- the run status (R50) -/
  status : Status
  /-- the host's latched stop request (R51) -/
  stopRequest : Bool
  /-- the storage arrays ROM0, ROM1, VRAM, ERAM, WRAM, IO and HRAM (20_memory.md R71) -/
  mem : Memory
  /-- whether `load_fixed_bank` has run, which it does once and before any step (20_memory.md R84,
  70_reset_and_hazards.md R252; DEDUCED, log entry 3) -/
  romLoaded : Bool
  /-- the configuration, which no step writes (10_state.md R56; log entry 2) -/
  config : Config
deriving DecidableEq, Repr

/-- Why no step is enabled. A fault of the emulated machine is a next state whose status is `faulted`
(60_exceptions.md R226, log entry 1); these two say that a terminal state has no step (R230). -/
inductive Fault where
  /-- raised by step in a state whose status is Faulted: "once faulted, the interpreter cannot be resumed". Safe. -/
  | noStepFaulted (record : FaultRecord)
  /-- raised by step in a state whose status is Stopped (10_state.md R50, 60_exceptions.md R230). Safe. -/
  | noStepStopped
deriving DecidableEq, Repr

/-- Why a step is refused. -/
inductive Refusal where
  /-- raised by an arm of exec whose instruction has no meaning yet; no arm does. Safe. -/
  | notModelled (mnemonic : String)
  /-- raised by step before `load_fixed_bank`: no read, write or step happens before it (70_reset_and_hazards.md R252;
  93_implementation_defined.md §1). Safe. -/
  | romNotLoaded
deriving DecidableEq, Repr

/-- The registers at construction (10_state.md R54). -/
def RegFile.reset : RegFile :=
  { a := 0x00#8, f := 0x00#8, b := 0x00#8, c := 0x00#8, d := 0x00#8, e := 0x00#8, h := 0x00#8, l := 0x00#8 }

/-- The machine at construction, for either value of `RomWritePolicy` (00_scope.md R13, 10_state.md R54,
70_reset_and_hazards.md R250): every backed region zero-filled, the fixed bank not yet loaded. -/
def State.construct (policy : RomWritePolicy) : State :=
  { regs := RegFile.reset
    sp := 0xFFFE#16
    pc := 0x0100#16
    status := .running
    stopRequest := false
    mem := []
    romLoaded := false
    config := { romWritePolicy := policy } }

/-- The machine right after reset, which is its construction (70_reset_and_hazards.md R250), with `RomWritePolicy` left
open as the spec leaves it (00_scope.md R13, log entry 2). -/
def State.reset : State := State.construct Config.openRomWritePolicy

end Sys2Proof.Machine
end

