-- ==== Sys2Proof/Machine/Memory.lean ====
section
/-! DEFINITION. Memory: the storage arrays as a sparse list of (address, byte) pairs in one canonical form. Every
backed region is zero-initialised (20_memory.md R71), so an address that is not listed reads 0x00; the bytes of ROM0
before `load_fixed_bank`, to which the spec gives no value, read so too (log entry 4). -/

namespace Sys2Proof.Machine

/-- What an address that is not listed reads as (20_memory.md R71: "zero-initialized"). -/
def Memory.unlisted : Byte := 0x00#8

/-- The byte at an address. -/
def Memory.read : Memory → Nat → Byte
  | [], _ => Memory.unlisted
  | cell :: m, n => if cell.1 = n then cell.2 else Memory.read m n

/-- The cells but those at one address. -/
def Memory.erase (m : Memory) (n : Nat) : Memory := m.filter (fun cell => cell.1 != n)

/-- A cell put before the first cell with a higher address. -/
def Memory.insert : Memory → Nat → Byte → Memory
  | [], n, v => [(n, v)]
  | cell :: m, n, v => if n < cell.1 then (n, v) :: cell :: m else cell :: Memory.insert m n v

/-- The memory after storing a byte. -/
def Memory.write (m : Memory) (n : Nat) (v : Byte) : Memory :=
  if v = Memory.unlisted then m.erase n else Memory.insert (m.erase n) n v

/-- The canonical form: addresses strictly rising, no cell equal to what an unlisted address reads as. -/
abbrev Memory.wf (m : Memory) : Prop :=
  m.Pairwise (fun x y => x.1 < y.1) ∧ ∀ cell ∈ m, cell.2 ≠ Memory.unlisted

/-- The cells of a run of bytes from an address on. -/
def Memory.cellsFrom : Nat → List Byte → Memory
  | _, [] => []
  | n, v :: vs => if v = Memory.unlisted then Memory.cellsFrom (n + 1) vs else (n, v) :: Memory.cellsFrom (n + 1) vs

/-- The memory with its lowest addresses replaced by a run of bytes from address 0 on. -/
def Memory.loadLow (m : Memory) (bytes : List Byte) : Memory :=
  Memory.cellsFrom 0 bytes ++ m.filter (fun cell => decide (bytes.length ≤ cell.1))

end Sys2Proof.Machine
end

