-- ==== Sys2Proof/Machine/Bits.lean ====
section
/-! DEFINITION. Bits: halves of a word, byte order and sign extension (00_scope.md R16). -/

namespace Sys2Proof

/-- `hi(w) = w[15:8]` (00_scope.md R16). -/
def hiByte (w : Word) : Byte := w.extractLsb' 8 8

/-- `lo(w) = w[7:0]` (00_scope.md R16). -/
def loByte (w : Word) : Byte := w.extractLsb' 0 8

/-- `hi:lo`, the concatenation hi·256 + lo (00_scope.md R16). -/
def wordOf (hi lo : Byte) : Word := BitVec.ofNat 16 (hi.toNat * 256 + lo.toNat)

/-- `sext_8(v)`: v when v < 128, else v − 256 (00_scope.md R16). -/
def sext8 (v : Byte) : Int := if v.toNat < 128 then (v.toNat : Int) else (v.toNat : Int) - 256

/-- `u16(v) = v mod 65536` of an unbounded integer (00_scope.md R16). -/
def u16 (v : Int) : Word := BitVec.ofInt 16 v

end Sys2Proof
end

