-- ==== Sys2Proof/Machine/Flags.lean ====
section
/-! DEFINITION. Flags: the four flags in F[7:4] and every flag computation of the spec (10_state.md R45, R46;
41_alu.md R167). The bit positions and the borrow reading of H are the spec's own decisions (92_eei_decisions.md D10,
D13; log entry 11). -/

namespace Sys2Proof.Machine

/-- Z = F[7] (10_state.md R45). -/
def RegFile.flagZ (r : RegFile) : Bool := r.f.getLsbD 7

/-- N = F[6] (10_state.md R45). -/
def RegFile.flagN (r : RegFile) : Bool := r.f.getLsbD 6

/-- H = F[5] (10_state.md R45). -/
def RegFile.flagH (r : RegFile) : Bool := r.f.getLsbD 5

/-- C = F[4] (10_state.md R45). -/
def RegFile.flagC (r : RegFile) : Bool := r.f.getLsbD 4

/-- The byte with the four flags in its high nibble and a given low nibble (10_state.md R45). -/
def packFlags (z n h c : Bool) (low : BitVec 4) : Byte :=
  BitVec.ofBool z ++ BitVec.ofBool n ++ BitVec.ofBool h ++ BitVec.ofBool c ++ low

/-- `flags <- (Z=z, N=n, H=h, C=c)`: writes F[7:4] and no other bit (00_scope.md R17, 10_state.md R42). -/
def RegFile.setFlags (r : RegFile) (z n h c : Bool) : RegFile :=
  { r with f := packFlags z n h c (r.f.extractLsb' 0 4) }

/-- `hc_add(a,b)`: a carry out of bit 3 (41_alu.md R167). -/
def hcAdd (a b : Byte) : Bool := decide ((a &&& 0x0F#8).toNat + (b &&& 0x0F#8).toNat > 0xF)

/-- `c_add(a,b)`: a carry out of bit 7 (41_alu.md R167). -/
def cAdd (a b : Byte) : Bool := decide (a.toNat + b.toNat > 0xFF)

/-- `hc_sub(a,b)`: a borrow from bit 4 into bit 3 (41_alu.md R167, 90_conflicts.md C5). -/
def hcSub (a b : Byte) : Bool := decide ((a &&& 0x0F#8).toNat < (b &&& 0x0F#8).toNat)

/-- `c_sub(a,b)`: a borrow out of bit 7 (41_alu.md R167). -/
def cSub (a b : Byte) : Bool := decide (a.toNat < b.toNat)

/-- `res = 0`, the rule of Z for every 8-bit result (10_state.md R46). -/
def isZero (res : Byte) : Bool := decide (res = 0x00#8)

/-- H of INC r: the low nibble was 0xF (41_alu.md R172). -/
def hcInc (v : Byte) : Bool := decide (v &&& 0x0F#8 = 0x0F#8)

/-- H of DEC r: the low nibble was 0x0 (41_alu.md R173). -/
def hcDec (v : Byte) : Bool := decide (v &&& 0x0F#8 = 0x00#8)

end Sys2Proof.Machine
end

