-- ==== Sys2Proof/Syntax.lean ====
section
/-! DEFINITION. Syntax: the instructions. `Instr` has one constructor for each of the 231 rows of
spec/opcode_table.json, named after the row's mnemonic (`mHL`, `mnn`, `mn`, `mC` stand for the memory operands (HL),
(nn), (0xFF00+n) and (0xFF00+C)). `Form` says the same instructions by rule and operand fields (30_encoding.md R113 to
R121), as the spec's headings do: `Instr.form` and `Form.toInstr` carry one to the other. -/

namespace Sys2Proof

/-- The 3-bit register codes but (HL) (30_encoding.md R113). No code names F. -/
inductive Reg where
  | B | C | D | E | H | L | A
deriving DecidableEq, Repr

/-- The register-pair field `dd` (30_encoding.md R114). -/
inductive DPair where
  | BC | DE | HL | SP
deriving DecidableEq, Repr

/-- The register-pair field `qq` of PUSH and POP (30_encoding.md R114). -/
inductive QPair where
  | BC | DE | HL | AF
deriving DecidableEq, Repr

/-- The condition field `cc` of JR cc,e (30_encoding.md R119). -/
inductive Cond where
  | NZ | Z | NC | C
deriving DecidableEq, Repr

/-- The admitted values of the ALU field (30_encoding.md R121). -/
inductive AluOp where
  | add | sub | and | xor | or | cp
deriving DecidableEq, Repr

/-- The source operand `s` of the accumulator instructions (41_alu.md R166). -/
inductive Src where
  | reg (r : Reg)
  | mHL
  | imm (n : Byte)
deriving DecidableEq, Repr

/-- An instruction by its rule and operands. -/
inductive Form where
  /-- LD r,r' (40_load.md R140) -/
  | ldRegReg (d s : Reg)
  /-- LD r,(HL) (R141) -/
  | ldRegMem (d : Reg)
  /-- LD (HL),r (R142) -/
  | ldMemReg (s : Reg)
  /-- LD r,n (R143) -/
  | ldRegImm (d : Reg) (n : Byte)
  /-- LD dd,nn (R144) -/
  | ldPairImm (dd : DPair) (nn : Word)
  /-- LD (HL),n (R145) -/
  | ldMemImm (n : Byte)
  /-- LD A,(nn) (R146) -/
  | ldADirect (nn : Word)
  /-- LD (nn),A (R147) -/
  | ldDirectA (nn : Word)
  /-- LDH A,(n) (R148) -/
  | ldhAOffset (n : Byte)
  /-- LDH (n),A (R149) -/
  | ldhOffsetA (n : Byte)
  /-- LD A,(C) (R150) -/
  | ldAIndexC
  /-- LD (C),A (R151) -/
  | ldIndexCA
  /-- ADD, SUB, AND, XOR, OR, CP (41_alu.md R160 to R165) -/
  | alu (op : AluOp) (s : Src)
  /-- INC r (R172) -/
  | incReg (r : Reg)
  /-- DEC r (R173) -/
  | decReg (r : Reg)
  /-- INC rr (R174) -/
  | incPair (dd : DPair)
  /-- DEC rr (R175) -/
  | decPair (dd : DPair)
  /-- JP nn (42_control.md R190) -/
  | jp (nn : Word)
  /-- JR cc,e (R191), with `e` the signed displacement of 30_encoding.md R117 -/
  | jrCond (cc : Cond) (e : Int)
  /-- JR e (R192) -/
  | jr (e : Int)
  /-- CALL nn (R193) -/
  | call (nn : Word)
  /-- RET (R194) -/
  | ret
  /-- PUSH qq (43_stack.md R200) -/
  | push (qq : QPair)
  /-- POP qq (R201) -/
  | pop (qq : QPair)
  /-- RES b,r (44_bit_reset.md R210), with the bit index of 30_encoding.md R120 -/
  | res (b : Fin 8) (r : Reg)
  /-- NOP (45_misc.md R215) -/
  | nop
  /-- DI (R216) -/
  | di
deriving DecidableEq, Repr

/-- The instruction set: one constructor per row of spec/opcode_table.json, in the table's order. The displacement
`e` of a relative jump is a signed number, whose range WellFormed checks (30_encoding.md R117). -/
inductive Instr where
  | ld_B_B
  | ld_B_C
  | ld_B_D
  | ld_B_E
  | ld_B_H
  | ld_B_L
  | ld_B_mHL
  | ld_B_A
  | ld_C_B
  | ld_C_C
  | ld_C_D
  | ld_C_E
  | ld_C_H
  | ld_C_L
  | ld_C_mHL
  | ld_C_A
  | ld_D_B
  | ld_D_C
  | ld_D_D
  | ld_D_E
  | ld_D_H
  | ld_D_L
  | ld_D_mHL
  | ld_D_A
  | ld_E_B
  | ld_E_C
  | ld_E_D
  | ld_E_E
  | ld_E_H
  | ld_E_L
  | ld_E_mHL
  | ld_E_A
  | ld_H_B
  | ld_H_C
  | ld_H_D
  | ld_H_E
  | ld_H_H
  | ld_H_L
  | ld_H_mHL
  | ld_H_A
  | ld_L_B
  | ld_L_C
  | ld_L_D
  | ld_L_E
  | ld_L_H
  | ld_L_L
  | ld_L_mHL
  | ld_L_A
  | ld_mHL_B
  | ld_mHL_C
  | ld_mHL_D
  | ld_mHL_E
  | ld_mHL_H
  | ld_mHL_L
  | ld_mHL_A
  | ld_A_B
  | ld_A_C
  | ld_A_D
  | ld_A_E
  | ld_A_H
  | ld_A_L
  | ld_A_mHL
  | ld_A_A
  | ld_B_n (n : Byte)
  | ld_C_n (n : Byte)
  | ld_D_n (n : Byte)
  | ld_E_n (n : Byte)
  | ld_H_n (n : Byte)
  | ld_L_n (n : Byte)
  | ld_mHL_n (n : Byte)
  | ld_A_n (n : Byte)
  | ld_BC_nn (nn : Word)
  | ld_DE_nn (nn : Word)
  | ld_HL_nn (nn : Word)
  | ld_SP_nn (nn : Word)
  | ld_A_mnn (nn : Word)
  | ld_mnn_A (nn : Word)
  | ldh_A_mn (n : Byte)
  | ldh_mn_A (n : Byte)
  | ld_A_mC
  | ld_mC_A
  | add_A_B
  | add_A_C
  | add_A_D
  | add_A_E
  | add_A_H
  | add_A_L
  | add_A_mHL
  | add_A_A
  | add_A_n (n : Byte)
  | sub_B
  | sub_C
  | sub_D
  | sub_E
  | sub_H
  | sub_L
  | sub_mHL
  | sub_A
  | sub_n (n : Byte)
  | and_B
  | and_C
  | and_D
  | and_E
  | and_H
  | and_L
  | and_mHL
  | and_A
  | and_n (n : Byte)
  | xor_B
  | xor_C
  | xor_D
  | xor_E
  | xor_H
  | xor_L
  | xor_mHL
  | xor_A
  | xor_n (n : Byte)
  | or_B
  | or_C
  | or_D
  | or_E
  | or_H
  | or_L
  | or_mHL
  | or_A
  | or_n (n : Byte)
  | cp_B
  | cp_C
  | cp_D
  | cp_E
  | cp_H
  | cp_L
  | cp_mHL
  | cp_A
  | cp_n (n : Byte)
  | inc_B
  | inc_C
  | inc_D
  | inc_E
  | inc_H
  | inc_L
  | inc_A
  | dec_B
  | dec_C
  | dec_D
  | dec_E
  | dec_H
  | dec_L
  | dec_A
  | inc_BC
  | inc_DE
  | inc_HL
  | inc_SP
  | dec_BC
  | dec_DE
  | dec_HL
  | dec_SP
  | jp_nn (nn : Word)
  | jr_NZ_e (e : Int)
  | jr_Z_e (e : Int)
  | jr_NC_e (e : Int)
  | jr_C_e (e : Int)
  | jr_e (e : Int)
  | call_nn (nn : Word)
  | ret
  | push_BC
  | push_DE
  | push_HL
  | push_AF
  | pop_BC
  | pop_DE
  | pop_HL
  | pop_AF
  | res_0_B
  | res_0_C
  | res_0_D
  | res_0_E
  | res_0_H
  | res_0_L
  | res_0_A
  | res_1_B
  | res_1_C
  | res_1_D
  | res_1_E
  | res_1_H
  | res_1_L
  | res_1_A
  | res_2_B
  | res_2_C
  | res_2_D
  | res_2_E
  | res_2_H
  | res_2_L
  | res_2_A
  | res_3_B
  | res_3_C
  | res_3_D
  | res_3_E
  | res_3_H
  | res_3_L
  | res_3_A
  | res_4_B
  | res_4_C
  | res_4_D
  | res_4_E
  | res_4_H
  | res_4_L
  | res_4_A
  | res_5_B
  | res_5_C
  | res_5_D
  | res_5_E
  | res_5_H
  | res_5_L
  | res_5_A
  | res_6_B
  | res_6_C
  | res_6_D
  | res_6_E
  | res_6_H
  | res_6_L
  | res_6_A
  | res_7_B
  | res_7_C
  | res_7_D
  | res_7_E
  | res_7_H
  | res_7_L
  | res_7_A
  | nop
  | di
deriving DecidableEq, Repr

/-- The rule and operands a row of the table stands for (the table's columns `operands` and `rule`). -/
def Instr.form : Instr → Form
  | .ld_B_B => .ldRegReg .B .B
  | .ld_B_C => .ldRegReg .B .C
  | .ld_B_D => .ldRegReg .B .D
  | .ld_B_E => .ldRegReg .B .E
  | .ld_B_H => .ldRegReg .B .H
  | .ld_B_L => .ldRegReg .B .L
  | .ld_B_mHL => .ldRegMem .B
  | .ld_B_A => .ldRegReg .B .A
  | .ld_C_B => .ldRegReg .C .B
  | .ld_C_C => .ldRegReg .C .C
  | .ld_C_D => .ldRegReg .C .D
  | .ld_C_E => .ldRegReg .C .E
  | .ld_C_H => .ldRegReg .C .H
  | .ld_C_L => .ldRegReg .C .L
  | .ld_C_mHL => .ldRegMem .C
  | .ld_C_A => .ldRegReg .C .A
  | .ld_D_B => .ldRegReg .D .B
  | .ld_D_C => .ldRegReg .D .C
  | .ld_D_D => .ldRegReg .D .D
  | .ld_D_E => .ldRegReg .D .E
  | .ld_D_H => .ldRegReg .D .H
  | .ld_D_L => .ldRegReg .D .L
  | .ld_D_mHL => .ldRegMem .D
  | .ld_D_A => .ldRegReg .D .A
  | .ld_E_B => .ldRegReg .E .B
  | .ld_E_C => .ldRegReg .E .C
  | .ld_E_D => .ldRegReg .E .D
  | .ld_E_E => .ldRegReg .E .E
  | .ld_E_H => .ldRegReg .E .H
  | .ld_E_L => .ldRegReg .E .L
  | .ld_E_mHL => .ldRegMem .E
  | .ld_E_A => .ldRegReg .E .A
  | .ld_H_B => .ldRegReg .H .B
  | .ld_H_C => .ldRegReg .H .C
  | .ld_H_D => .ldRegReg .H .D
  | .ld_H_E => .ldRegReg .H .E
  | .ld_H_H => .ldRegReg .H .H
  | .ld_H_L => .ldRegReg .H .L
  | .ld_H_mHL => .ldRegMem .H
  | .ld_H_A => .ldRegReg .H .A
  | .ld_L_B => .ldRegReg .L .B
  | .ld_L_C => .ldRegReg .L .C
  | .ld_L_D => .ldRegReg .L .D
  | .ld_L_E => .ldRegReg .L .E
  | .ld_L_H => .ldRegReg .L .H
  | .ld_L_L => .ldRegReg .L .L
  | .ld_L_mHL => .ldRegMem .L
  | .ld_L_A => .ldRegReg .L .A
  | .ld_mHL_B => .ldMemReg .B
  | .ld_mHL_C => .ldMemReg .C
  | .ld_mHL_D => .ldMemReg .D
  | .ld_mHL_E => .ldMemReg .E
  | .ld_mHL_H => .ldMemReg .H
  | .ld_mHL_L => .ldMemReg .L
  | .ld_mHL_A => .ldMemReg .A
  | .ld_A_B => .ldRegReg .A .B
  | .ld_A_C => .ldRegReg .A .C
  | .ld_A_D => .ldRegReg .A .D
  | .ld_A_E => .ldRegReg .A .E
  | .ld_A_H => .ldRegReg .A .H
  | .ld_A_L => .ldRegReg .A .L
  | .ld_A_mHL => .ldRegMem .A
  | .ld_A_A => .ldRegReg .A .A
  | .ld_B_n n => .ldRegImm .B n
  | .ld_C_n n => .ldRegImm .C n
  | .ld_D_n n => .ldRegImm .D n
  | .ld_E_n n => .ldRegImm .E n
  | .ld_H_n n => .ldRegImm .H n
  | .ld_L_n n => .ldRegImm .L n
  | .ld_mHL_n n => .ldMemImm n
  | .ld_A_n n => .ldRegImm .A n
  | .ld_BC_nn nn => .ldPairImm .BC nn
  | .ld_DE_nn nn => .ldPairImm .DE nn
  | .ld_HL_nn nn => .ldPairImm .HL nn
  | .ld_SP_nn nn => .ldPairImm .SP nn
  | .ld_A_mnn nn => .ldADirect nn
  | .ld_mnn_A nn => .ldDirectA nn
  | .ldh_A_mn n => .ldhAOffset n
  | .ldh_mn_A n => .ldhOffsetA n
  | .ld_A_mC => .ldAIndexC
  | .ld_mC_A => .ldIndexCA
  | .add_A_B => .alu .add (.reg .B)
  | .add_A_C => .alu .add (.reg .C)
  | .add_A_D => .alu .add (.reg .D)
  | .add_A_E => .alu .add (.reg .E)
  | .add_A_H => .alu .add (.reg .H)
  | .add_A_L => .alu .add (.reg .L)
  | .add_A_mHL => .alu .add .mHL
  | .add_A_A => .alu .add (.reg .A)
  | .add_A_n n => .alu .add (.imm n)
  | .sub_B => .alu .sub (.reg .B)
  | .sub_C => .alu .sub (.reg .C)
  | .sub_D => .alu .sub (.reg .D)
  | .sub_E => .alu .sub (.reg .E)
  | .sub_H => .alu .sub (.reg .H)
  | .sub_L => .alu .sub (.reg .L)
  | .sub_mHL => .alu .sub .mHL
  | .sub_A => .alu .sub (.reg .A)
  | .sub_n n => .alu .sub (.imm n)
  | .and_B => .alu .and (.reg .B)
  | .and_C => .alu .and (.reg .C)
  | .and_D => .alu .and (.reg .D)
  | .and_E => .alu .and (.reg .E)
  | .and_H => .alu .and (.reg .H)
  | .and_L => .alu .and (.reg .L)
  | .and_mHL => .alu .and .mHL
  | .and_A => .alu .and (.reg .A)
  | .and_n n => .alu .and (.imm n)
  | .xor_B => .alu .xor (.reg .B)
  | .xor_C => .alu .xor (.reg .C)
  | .xor_D => .alu .xor (.reg .D)
  | .xor_E => .alu .xor (.reg .E)
  | .xor_H => .alu .xor (.reg .H)
  | .xor_L => .alu .xor (.reg .L)
  | .xor_mHL => .alu .xor .mHL
  | .xor_A => .alu .xor (.reg .A)
  | .xor_n n => .alu .xor (.imm n)
  | .or_B => .alu .or (.reg .B)
  | .or_C => .alu .or (.reg .C)
  | .or_D => .alu .or (.reg .D)
  | .or_E => .alu .or (.reg .E)
  | .or_H => .alu .or (.reg .H)
  | .or_L => .alu .or (.reg .L)
  | .or_mHL => .alu .or .mHL
  | .or_A => .alu .or (.reg .A)
  | .or_n n => .alu .or (.imm n)
  | .cp_B => .alu .cp (.reg .B)
  | .cp_C => .alu .cp (.reg .C)
  | .cp_D => .alu .cp (.reg .D)
  | .cp_E => .alu .cp (.reg .E)
  | .cp_H => .alu .cp (.reg .H)
  | .cp_L => .alu .cp (.reg .L)
  | .cp_mHL => .alu .cp .mHL
  | .cp_A => .alu .cp (.reg .A)
  | .cp_n n => .alu .cp (.imm n)
  | .inc_B => .incReg .B
  | .inc_C => .incReg .C
  | .inc_D => .incReg .D
  | .inc_E => .incReg .E
  | .inc_H => .incReg .H
  | .inc_L => .incReg .L
  | .inc_A => .incReg .A
  | .dec_B => .decReg .B
  | .dec_C => .decReg .C
  | .dec_D => .decReg .D
  | .dec_E => .decReg .E
  | .dec_H => .decReg .H
  | .dec_L => .decReg .L
  | .dec_A => .decReg .A
  | .inc_BC => .incPair .BC
  | .inc_DE => .incPair .DE
  | .inc_HL => .incPair .HL
  | .inc_SP => .incPair .SP
  | .dec_BC => .decPair .BC
  | .dec_DE => .decPair .DE
  | .dec_HL => .decPair .HL
  | .dec_SP => .decPair .SP
  | .jp_nn nn => .jp nn
  | .jr_NZ_e e => .jrCond .NZ e
  | .jr_Z_e e => .jrCond .Z e
  | .jr_NC_e e => .jrCond .NC e
  | .jr_C_e e => .jrCond .C e
  | .jr_e e => .jr e
  | .call_nn nn => .call nn
  | .ret => .ret
  | .push_BC => .push .BC
  | .push_DE => .push .DE
  | .push_HL => .push .HL
  | .push_AF => .push .AF
  | .pop_BC => .pop .BC
  | .pop_DE => .pop .DE
  | .pop_HL => .pop .HL
  | .pop_AF => .pop .AF
  | .res_0_B => .res 0 .B
  | .res_0_C => .res 0 .C
  | .res_0_D => .res 0 .D
  | .res_0_E => .res 0 .E
  | .res_0_H => .res 0 .H
  | .res_0_L => .res 0 .L
  | .res_0_A => .res 0 .A
  | .res_1_B => .res 1 .B
  | .res_1_C => .res 1 .C
  | .res_1_D => .res 1 .D
  | .res_1_E => .res 1 .E
  | .res_1_H => .res 1 .H
  | .res_1_L => .res 1 .L
  | .res_1_A => .res 1 .A
  | .res_2_B => .res 2 .B
  | .res_2_C => .res 2 .C
  | .res_2_D => .res 2 .D
  | .res_2_E => .res 2 .E
  | .res_2_H => .res 2 .H
  | .res_2_L => .res 2 .L
  | .res_2_A => .res 2 .A
  | .res_3_B => .res 3 .B
  | .res_3_C => .res 3 .C
  | .res_3_D => .res 3 .D
  | .res_3_E => .res 3 .E
  | .res_3_H => .res 3 .H
  | .res_3_L => .res 3 .L
  | .res_3_A => .res 3 .A
  | .res_4_B => .res 4 .B
  | .res_4_C => .res 4 .C
  | .res_4_D => .res 4 .D
  | .res_4_E => .res 4 .E
  | .res_4_H => .res 4 .H
  | .res_4_L => .res 4 .L
  | .res_4_A => .res 4 .A
  | .res_5_B => .res 5 .B
  | .res_5_C => .res 5 .C
  | .res_5_D => .res 5 .D
  | .res_5_E => .res 5 .E
  | .res_5_H => .res 5 .H
  | .res_5_L => .res 5 .L
  | .res_5_A => .res 5 .A
  | .res_6_B => .res 6 .B
  | .res_6_C => .res 6 .C
  | .res_6_D => .res 6 .D
  | .res_6_E => .res 6 .E
  | .res_6_H => .res 6 .H
  | .res_6_L => .res 6 .L
  | .res_6_A => .res 6 .A
  | .res_7_B => .res 7 .B
  | .res_7_C => .res 7 .C
  | .res_7_D => .res 7 .D
  | .res_7_E => .res 7 .E
  | .res_7_H => .res 7 .H
  | .res_7_L => .res 7 .L
  | .res_7_A => .res 7 .A
  | .nop => .nop
  | .di => .di

/-- The row of the table that an instruction with given operands is. -/
def Form.toInstr : Form → Instr
  | .ldRegReg .B .B => .ld_B_B
  | .ldRegReg .B .C => .ld_B_C
  | .ldRegReg .B .D => .ld_B_D
  | .ldRegReg .B .E => .ld_B_E
  | .ldRegReg .B .H => .ld_B_H
  | .ldRegReg .B .L => .ld_B_L
  | .ldRegMem .B => .ld_B_mHL
  | .ldRegReg .B .A => .ld_B_A
  | .ldRegReg .C .B => .ld_C_B
  | .ldRegReg .C .C => .ld_C_C
  | .ldRegReg .C .D => .ld_C_D
  | .ldRegReg .C .E => .ld_C_E
  | .ldRegReg .C .H => .ld_C_H
  | .ldRegReg .C .L => .ld_C_L
  | .ldRegMem .C => .ld_C_mHL
  | .ldRegReg .C .A => .ld_C_A
  | .ldRegReg .D .B => .ld_D_B
  | .ldRegReg .D .C => .ld_D_C
  | .ldRegReg .D .D => .ld_D_D
  | .ldRegReg .D .E => .ld_D_E
  | .ldRegReg .D .H => .ld_D_H
  | .ldRegReg .D .L => .ld_D_L
  | .ldRegMem .D => .ld_D_mHL
  | .ldRegReg .D .A => .ld_D_A
  | .ldRegReg .E .B => .ld_E_B
  | .ldRegReg .E .C => .ld_E_C
  | .ldRegReg .E .D => .ld_E_D
  | .ldRegReg .E .E => .ld_E_E
  | .ldRegReg .E .H => .ld_E_H
  | .ldRegReg .E .L => .ld_E_L
  | .ldRegMem .E => .ld_E_mHL
  | .ldRegReg .E .A => .ld_E_A
  | .ldRegReg .H .B => .ld_H_B
  | .ldRegReg .H .C => .ld_H_C
  | .ldRegReg .H .D => .ld_H_D
  | .ldRegReg .H .E => .ld_H_E
  | .ldRegReg .H .H => .ld_H_H
  | .ldRegReg .H .L => .ld_H_L
  | .ldRegMem .H => .ld_H_mHL
  | .ldRegReg .H .A => .ld_H_A
  | .ldRegReg .L .B => .ld_L_B
  | .ldRegReg .L .C => .ld_L_C
  | .ldRegReg .L .D => .ld_L_D
  | .ldRegReg .L .E => .ld_L_E
  | .ldRegReg .L .H => .ld_L_H
  | .ldRegReg .L .L => .ld_L_L
  | .ldRegMem .L => .ld_L_mHL
  | .ldRegReg .L .A => .ld_L_A
  | .ldMemReg .B => .ld_mHL_B
  | .ldMemReg .C => .ld_mHL_C
  | .ldMemReg .D => .ld_mHL_D
  | .ldMemReg .E => .ld_mHL_E
  | .ldMemReg .H => .ld_mHL_H
  | .ldMemReg .L => .ld_mHL_L
  | .ldMemReg .A => .ld_mHL_A
  | .ldRegReg .A .B => .ld_A_B
  | .ldRegReg .A .C => .ld_A_C
  | .ldRegReg .A .D => .ld_A_D
  | .ldRegReg .A .E => .ld_A_E
  | .ldRegReg .A .H => .ld_A_H
  | .ldRegReg .A .L => .ld_A_L
  | .ldRegMem .A => .ld_A_mHL
  | .ldRegReg .A .A => .ld_A_A
  | .ldRegImm .B n => .ld_B_n n
  | .ldRegImm .C n => .ld_C_n n
  | .ldRegImm .D n => .ld_D_n n
  | .ldRegImm .E n => .ld_E_n n
  | .ldRegImm .H n => .ld_H_n n
  | .ldRegImm .L n => .ld_L_n n
  | .ldMemImm n => .ld_mHL_n n
  | .ldRegImm .A n => .ld_A_n n
  | .ldPairImm .BC nn => .ld_BC_nn nn
  | .ldPairImm .DE nn => .ld_DE_nn nn
  | .ldPairImm .HL nn => .ld_HL_nn nn
  | .ldPairImm .SP nn => .ld_SP_nn nn
  | .ldADirect nn => .ld_A_mnn nn
  | .ldDirectA nn => .ld_mnn_A nn
  | .ldhAOffset n => .ldh_A_mn n
  | .ldhOffsetA n => .ldh_mn_A n
  | .ldAIndexC => .ld_A_mC
  | .ldIndexCA => .ld_mC_A
  | .alu .add (.reg .B) => .add_A_B
  | .alu .add (.reg .C) => .add_A_C
  | .alu .add (.reg .D) => .add_A_D
  | .alu .add (.reg .E) => .add_A_E
  | .alu .add (.reg .H) => .add_A_H
  | .alu .add (.reg .L) => .add_A_L
  | .alu .add .mHL => .add_A_mHL
  | .alu .add (.reg .A) => .add_A_A
  | .alu .add (.imm n) => .add_A_n n
  | .alu .sub (.reg .B) => .sub_B
  | .alu .sub (.reg .C) => .sub_C
  | .alu .sub (.reg .D) => .sub_D
  | .alu .sub (.reg .E) => .sub_E
  | .alu .sub (.reg .H) => .sub_H
  | .alu .sub (.reg .L) => .sub_L
  | .alu .sub .mHL => .sub_mHL
  | .alu .sub (.reg .A) => .sub_A
  | .alu .sub (.imm n) => .sub_n n
  | .alu .and (.reg .B) => .and_B
  | .alu .and (.reg .C) => .and_C
  | .alu .and (.reg .D) => .and_D
  | .alu .and (.reg .E) => .and_E
  | .alu .and (.reg .H) => .and_H
  | .alu .and (.reg .L) => .and_L
  | .alu .and .mHL => .and_mHL
  | .alu .and (.reg .A) => .and_A
  | .alu .and (.imm n) => .and_n n
  | .alu .xor (.reg .B) => .xor_B
  | .alu .xor (.reg .C) => .xor_C
  | .alu .xor (.reg .D) => .xor_D
  | .alu .xor (.reg .E) => .xor_E
  | .alu .xor (.reg .H) => .xor_H
  | .alu .xor (.reg .L) => .xor_L
  | .alu .xor .mHL => .xor_mHL
  | .alu .xor (.reg .A) => .xor_A
  | .alu .xor (.imm n) => .xor_n n
  | .alu .or (.reg .B) => .or_B
  | .alu .or (.reg .C) => .or_C
  | .alu .or (.reg .D) => .or_D
  | .alu .or (.reg .E) => .or_E
  | .alu .or (.reg .H) => .or_H
  | .alu .or (.reg .L) => .or_L
  | .alu .or .mHL => .or_mHL
  | .alu .or (.reg .A) => .or_A
  | .alu .or (.imm n) => .or_n n
  | .alu .cp (.reg .B) => .cp_B
  | .alu .cp (.reg .C) => .cp_C
  | .alu .cp (.reg .D) => .cp_D
  | .alu .cp (.reg .E) => .cp_E
  | .alu .cp (.reg .H) => .cp_H
  | .alu .cp (.reg .L) => .cp_L
  | .alu .cp .mHL => .cp_mHL
  | .alu .cp (.reg .A) => .cp_A
  | .alu .cp (.imm n) => .cp_n n
  | .incReg .B => .inc_B
  | .incReg .C => .inc_C
  | .incReg .D => .inc_D
  | .incReg .E => .inc_E
  | .incReg .H => .inc_H
  | .incReg .L => .inc_L
  | .incReg .A => .inc_A
  | .decReg .B => .dec_B
  | .decReg .C => .dec_C
  | .decReg .D => .dec_D
  | .decReg .E => .dec_E
  | .decReg .H => .dec_H
  | .decReg .L => .dec_L
  | .decReg .A => .dec_A
  | .incPair .BC => .inc_BC
  | .incPair .DE => .inc_DE
  | .incPair .HL => .inc_HL
  | .incPair .SP => .inc_SP
  | .decPair .BC => .dec_BC
  | .decPair .DE => .dec_DE
  | .decPair .HL => .dec_HL
  | .decPair .SP => .dec_SP
  | .jp nn => .jp_nn nn
  | .jrCond .NZ e => .jr_NZ_e e
  | .jrCond .Z e => .jr_Z_e e
  | .jrCond .NC e => .jr_NC_e e
  | .jrCond .C e => .jr_C_e e
  | .jr e => .jr_e e
  | .call nn => .call_nn nn
  | .ret => .ret
  | .push .BC => .push_BC
  | .push .DE => .push_DE
  | .push .HL => .push_HL
  | .push .AF => .push_AF
  | .pop .BC => .pop_BC
  | .pop .DE => .pop_DE
  | .pop .HL => .pop_HL
  | .pop .AF => .pop_AF
  | .res 0 .B => .res_0_B
  | .res 0 .C => .res_0_C
  | .res 0 .D => .res_0_D
  | .res 0 .E => .res_0_E
  | .res 0 .H => .res_0_H
  | .res 0 .L => .res_0_L
  | .res 0 .A => .res_0_A
  | .res 1 .B => .res_1_B
  | .res 1 .C => .res_1_C
  | .res 1 .D => .res_1_D
  | .res 1 .E => .res_1_E
  | .res 1 .H => .res_1_H
  | .res 1 .L => .res_1_L
  | .res 1 .A => .res_1_A
  | .res 2 .B => .res_2_B
  | .res 2 .C => .res_2_C
  | .res 2 .D => .res_2_D
  | .res 2 .E => .res_2_E
  | .res 2 .H => .res_2_H
  | .res 2 .L => .res_2_L
  | .res 2 .A => .res_2_A
  | .res 3 .B => .res_3_B
  | .res 3 .C => .res_3_C
  | .res 3 .D => .res_3_D
  | .res 3 .E => .res_3_E
  | .res 3 .H => .res_3_H
  | .res 3 .L => .res_3_L
  | .res 3 .A => .res_3_A
  | .res 4 .B => .res_4_B
  | .res 4 .C => .res_4_C
  | .res 4 .D => .res_4_D
  | .res 4 .E => .res_4_E
  | .res 4 .H => .res_4_H
  | .res 4 .L => .res_4_L
  | .res 4 .A => .res_4_A
  | .res 5 .B => .res_5_B
  | .res 5 .C => .res_5_C
  | .res 5 .D => .res_5_D
  | .res 5 .E => .res_5_E
  | .res 5 .H => .res_5_H
  | .res 5 .L => .res_5_L
  | .res 5 .A => .res_5_A
  | .res 6 .B => .res_6_B
  | .res 6 .C => .res_6_C
  | .res 6 .D => .res_6_D
  | .res 6 .E => .res_6_E
  | .res 6 .H => .res_6_H
  | .res 6 .L => .res_6_L
  | .res 6 .A => .res_6_A
  | .res 7 .B => .res_7_B
  | .res 7 .C => .res_7_C
  | .res 7 .D => .res_7_D
  | .res 7 .E => .res_7_E
  | .res 7 .H => .res_7_H
  | .res 7 .L => .res_7_L
  | .res 7 .A => .res_7_A
  | .nop => .nop
  | .di => .di

/-- The number of encoded bytes (30_encoding.md R111 and the format column of R122). -/
def Form.length : Form → Nat
  | .ldRegReg _ _ => 1
  | .ldRegMem _ => 1
  | .ldMemReg _ => 1
  | .ldRegImm _ _ => 2
  | .ldPairImm _ _ => 3
  | .ldMemImm _ => 2
  | .ldADirect _ => 3
  | .ldDirectA _ => 3
  | .ldhAOffset _ => 2
  | .ldhOffsetA _ => 2
  | .ldAIndexC => 1
  | .ldIndexCA => 1
  | .alu _ (.reg _) => 1
  | .alu _ .mHL => 1
  | .alu _ (.imm _) => 2
  | .incReg _ => 1
  | .decReg _ => 1
  | .incPair _ => 1
  | .decPair _ => 1
  | .jp _ => 3
  | .jrCond _ _ => 2
  | .jr _ => 2
  | .call _ => 3
  | .ret => 1
  | .push _ => 1
  | .pop _ => 1
  | .res _ _ => 2
  | .nop => 1
  | .di => 1

/-- The number of encoded bytes of an instruction (30_encoding.md R111). -/
def Instr.length (i : Instr) : Nat := i.form.length

end Sys2Proof
end

