-- ==== Sys2Proof/Machine/Operands.lean ====
section
/-! DEFINITION. Operands: the operand forms that name registers, pairs, conditions and addresses (10_state.md R43, R44;
30_encoding.md R113, R114, R118, R119). The memory operand's access itself is in Ops. -/

namespace Sys2Proof.Machine

/-- `x[r]` (00_scope.md R17). -/
def RegFile.read (rf : RegFile) : Reg → Byte
  | .B => rf.b
  | .C => rf.c
  | .D => rf.d
  | .E => rf.e
  | .H => rf.h
  | .L => rf.l
  | .A => rf.a

/-- `x[r] <- v` (00_scope.md R17). -/
def RegFile.write (rf : RegFile) (r : Reg) (v : Byte) : RegFile :=
  match r with
  | .B => { rf with b := v }
  | .C => { rf with c := v }
  | .D => { rf with d := v }
  | .E => { rf with e := v }
  | .H => { rf with h := v }
  | .L => { rf with l := v }
  | .A => { rf with a := v }

/-- The state with another register file. -/
def State.setRegs (s : State) (rf : RegFile) : State := { s with regs := rf }

/-- `sp <- v`. -/
def State.setSp (s : State) (v : Word) : State := { s with sp := v }

/-- `pc <- v`. -/
def State.setPc (s : State) (v : Word) : State := { s with pc := v }

/-- The state with another memory. -/
def State.setMem (s : State) (m : Memory) : State := { s with mem := m }

/-- `status <- v`. -/
def State.setStatus (s : State) (v : Status) : State := { s with status := v }

/-- `x[r]` of a state. -/
def State.readReg (s : State) (r : Reg) : Byte := s.regs.read r

/-- `x[r] <- v` of a state. -/
def State.writeReg (s : State) (r : Reg) (v : Byte) : State := s.setRegs (s.regs.write r v)

/-- `flags <- (Z=z, N=n, H=h, C=c)` of a state. -/
def State.setFlags (s : State) (z n h c : Bool) : State := s.setRegs (s.regs.setFlags z n h c)

/-- `x[dd]`: a pair with its high register first, or SP (10_state.md R43). -/
def State.readPair (s : State) : DPair → Word
  | .BC => wordOf s.regs.b s.regs.c
  | .DE => wordOf s.regs.d s.regs.e
  | .HL => wordOf s.regs.h s.regs.l
  | .SP => s.sp

/-- `x[dd] <- v` (10_state.md R43). -/
def State.writePair (s : State) (dd : DPair) (v : Word) : State :=
  match dd with
  | .BC => s.setRegs { s.regs with b := hiByte v, c := loByte v }
  | .DE => s.setRegs { s.regs with d := hiByte v, e := loByte v }
  | .HL => s.setRegs { s.regs with h := hiByte v, l := loByte v }
  | .SP => s.setSp v

/-- `x[qq]` (10_state.md R43); the low byte of AF is F (43_stack.md R200). -/
def State.readStackPair (s : State) : QPair → Word
  | .BC => wordOf s.regs.b s.regs.c
  | .DE => wordOf s.regs.d s.regs.e
  | .HL => wordOf s.regs.h s.regs.l
  | .AF => wordOf s.regs.a s.regs.f

/-- `x[qq] <- v`; for AF, `x[F] <- lo(v) & 0xF0` (10_state.md R44, 43_stack.md R201). -/
def State.writeStackPair (s : State) (qq : QPair) (v : Word) : State :=
  match qq with
  | .BC => s.setRegs { s.regs with b := hiByte v, c := loByte v }
  | .DE => s.setRegs { s.regs with d := hiByte v, e := loByte v }
  | .HL => s.setRegs { s.regs with h := hiByte v, l := loByte v }
  | .AF => s.setRegs { s.regs with a := hiByte v, f := loByte v &&& 0xF0#8 }

/-- Whether a condition of JR cc,e holds (30_encoding.md R119, 42_control.md R191). -/
def State.condHolds (s : State) : Cond → Bool
  | .NZ => !s.regs.flagZ
  | .Z => s.regs.flagZ
  | .NC => !s.regs.flagC
  | .C => s.regs.flagC

/-- The address of the operand (HL) (30_encoding.md R113). -/
def hlAddress (s : State) : Word := wordOf s.regs.h s.regs.l

/-- The zero-page address 0xFF00 + n (30_encoding.md R118). -/
def zeroPage (n : Byte) : Word := 0xFF00#16 + n.setWidth 16

/-- The address of the operand (C): 0xFF00 + x[C] (30_encoding.md R118, 92_eei_decisions.md D8). -/
def indexCAddress (s : State) : Word := zeroPage s.regs.c

/-- The encoded length of an accumulator instruction with a given source (41_alu.md R166). -/
def sourceLength : Src → Nat
  | .reg _ => 1
  | .mHL => 1
  | .imm _ => 2

end Sys2Proof.Machine
end

