-- ==== Sys2Proof/Machine/Region.lean ====
section
/-! DEFINITION. Region: the memory map, nine regions that partition the address space (20_memory.md R71, R72). -/

namespace Sys2Proof.Machine

/-- The regions of 20_memory.md R71. -/
inductive Region where
  | rom0 | rom1 | vram | eram | wram | unmapped1 | io | unmapped2 | hram
deriving DecidableEq, Repr

/-- How a region answers an access (20_memory.md R71). -/
inductive RegionKind where
  /-- a read gives the stored byte, a write follows `RomWritePolicy` (R76) -/
  | rom
  /-- plain read and write storage (R75, R77) -/
  | storage
  /-- no storage: every access is a memory fault (R78) -/
  | unmapped
deriving DecidableEq, Repr

/-- The first address of a region (20_memory.md R71). -/
def Region.first : Region → Nat
  | .rom0 => 0x0000
  | .rom1 => 0x4000
  | .vram => 0x8000
  | .eram => 0xA000
  | .wram => 0xC000
  | .unmapped1 => 0xE000
  | .io => 0xFF00
  | .unmapped2 => 0xFF4C
  | .hram => 0xFF80

/-- The last address of a region (20_memory.md R71). -/
def Region.last : Region → Nat
  | .rom0 => 0x3FFF
  | .rom1 => 0x7FFF
  | .vram => 0x9FFF
  | .eram => 0xBFFF
  | .wram => 0xDFFF
  | .unmapped1 => 0xFEFF
  | .io => 0xFF4B
  | .unmapped2 => 0xFF7F
  | .hram => 0xFFFF

/-- The number of addresses of a region (20_memory.md R71). -/
def Region.size (r : Region) : Nat := r.last + 1 - r.first

/-- How a region answers an access (20_memory.md R71). -/
def Region.kind : Region → RegionKind
  | .rom0 => .rom
  | .rom1 => .rom
  | .vram => .storage
  | .eram => .storage
  | .wram => .storage
  | .unmapped1 => .unmapped
  | .io => .storage
  | .unmapped2 => .unmapped
  | .hram => .storage

/-- `region(a)`: the row of the table whose range contains the address (20_memory.md R72). -/
def regionAt (n : Nat) : Region :=
  if n < 0x4000 then .rom0
  else if n < 0x8000 then .rom1
  else if n < 0xA000 then .vram
  else if n < 0xC000 then .eram
  else if n < 0xE000 then .wram
  else if n < 0xFF00 then .unmapped1
  else if n < 0xFF4C then .io
  else if n < 0xFF80 then .unmapped2
  else .hram

/-- `region(a)` of a 16-bit address (20_memory.md R72). -/
def regionOf (a : Word) : Region := regionAt a.toNat

/-- `offset(a)` = a − (the region's first address) (20_memory.md R72). -/
def offsetOf (a : Word) : Nat := a.toNat - (regionOf a).first

/-- The backed regions in address order (20_memory.md R71, R85). -/
def backedRegions : List Region := [.rom0, .rom1, .vram, .eram, .wram, .io, .hram]

end Sys2Proof.Machine
end

