-- ==== Sys2Proof/Machine/Ops.lean ====
section
/-! DEFINITION. Ops: the shared operations over memory and registers. An operation that can raise answers a fault
record or its result; the state it is given is the one before the instruction, whose pc is pc_insn (10_state.md R49).
Nothing is committed when a record is raised (60_exceptions.md R226): the partial results are dropped with the record. -/

namespace Sys2Proof.Machine

/-! ## Addresses and the bus -/

/-- `chk(v, kind)`: an address in 0x0000–0xFFFF, or a memory fault at `u16(v)` (00_scope.md R19). -/
def chk (s : State) (v : Int) (k : Access) : Except FaultRecord Word :=
  if 0 ≤ v ∧ v ≤ 0xFFFF then .ok (u16 v) else .error (.memoryFault s.pc (u16 v) k)

/-- `read_u8(a)` (20_memory.md R80). -/
def readU8 (s : State) (a : Word) : Except FaultRecord Byte :=
  match (regionOf a).kind with
  | .unmapped => .error (.memoryFault s.pc a .read)
  | .rom => .ok (s.mem.read a.toNat)
  | .storage => .ok (s.mem.read a.toNat)

/-- `read_u16(a)`: little-endian, each byte resolved by itself, the lower address first (20_memory.md R81). -/
def readU16 (s : State) (a : Word) : Except FaultRecord Word := do
  let lo ← readU8 s a
  let a1 ← chk s (a.toNat + 1) .read
  let hi ← readU8 s a1
  .ok (wordOf hi lo)

/-- `write_u8(a, v)` (20_memory.md R82), with the ROM policy of R76. -/
def writeU8 (s : State) (a : Word) (v : Byte) : Except FaultRecord State :=
  match (regionOf a).kind with
  | .unmapped => .error (.memoryFault s.pc a .write)
  | .rom =>
    match s.config.romWritePolicy with
    | .ignore => .ok s
    | .fault => .error (.memoryFault s.pc a .write)
  | .storage => .ok (s.setMem (s.mem.write a.toNat v))

/-- `write_u16(a, v)`: the low byte at a, then the high byte at a + 1 (20_memory.md R83). -/
def writeU16 (s : State) (a : Word) (v : Word) : Except FaultRecord State := do
  let s1 ← writeU8 s a (loByte v)
  let a1 ← chk s (a.toNat + 1) .write
  writeU8 s1 a1 (hiByte v)

/-! ## Operands in memory, the stack and the next pc -/

/-- `src`, the source operand of an accumulator instruction (41_alu.md R166). -/
def readSource (s : State) : Src → Except FaultRecord Byte
  | .reg r => .ok (s.readReg r)
  | .mHL => readU8 s (hlAddress s)
  | .imm n => .ok n

/-- SP − 2, the address `push16` stores at, as an unbounded integer (43_stack.md R202). -/
def pushAddress (s : State) : Int := (s.sp.toNat : Int) - 2

/-- `push16(v)` (43_stack.md R202). -/
def push16 (s : State) (v : Word) : Except FaultRecord State := do
  let sp' ← chk s (pushAddress s) .write
  let s1 ← writeU16 s sp' v
  .ok (s1.setSp sp')

/-- `pop16()`: the word and the state with SP raised by 2 (43_stack.md R202). -/
def pop16 (s : State) : Except FaultRecord (Word × State) := do
  let v ← readU16 s s.sp
  let sp' ← chk s (s.sp.toNat + 2) .read
  .ok (v, s.setSp sp')

/-- `pc <- chk(pc_insn + L, Read)`: the end of every instruction that transfers no control (10_state.md R49,
70_reset_and_hazards.md R256). -/
def advance (s : State) (length : Nat) : Except FaultRecord State := do
  let next ← chk s (s.pc.toNat + length) .read
  .ok (s.setPc next)

/-! ## Taking a fault -/

/-- Taking a fault, of either kind: no register, flag, SP, PC or memory byte changes, and status becomes
`Faulted(record)` (60_exceptions.md R226). No control is transferred inside the machine (R229), and there is no return
from a fault: no operation leaves a terminal status (R230). -/
def takeFault (s : State) (record : FaultRecord) : State := s.setStatus (.faulted record)

/-- The state an instruction ends in: its result, or the fault it raised taken in the state before it (60_exceptions.md
R226, 70_reset_and_hazards.md R255). -/
def settle (s : State) : Except FaultRecord State → State
  | .ok s' => s'
  | .error record => takeFault s record

/-- The end of an instruction, a next state whether it raises or not (log entry 1). -/
def commit (s : State) (result : Except FaultRecord State) : Host.Outcome State Fault Refusal := .next (settle s result)

end Sys2Proof.Machine
end

