-- ==== Sys2Proof/Machine/Alu.lean ====
section
/-! DEFINITION. Alu: the accumulator instructions (41_alu.md R160 to R167). The operands are all read before a register
or a flag is written (R176), and 8-bit results are taken mod 256 (R168). -/

namespace Sys2Proof.Machine

/-- ADD A,s (41_alu.md R160). -/
def addAccumulator (src : Src) (s : State) : Except FaultRecord State := do
  let b ← readSource s src
  let a := s.readReg .A
  let res := a + b
  advance ((s.writeReg .A res).setFlags (isZero res) false (hcAdd a b) (cAdd a b)) (sourceLength src)

/-- SUB s (41_alu.md R161). -/
def subAccumulator (src : Src) (s : State) : Except FaultRecord State := do
  let b ← readSource s src
  let a := s.readReg .A
  let res := a - b
  advance ((s.writeReg .A res).setFlags (isZero res) true (hcSub a b) (cSub a b)) (sourceLength src)

/-- AND s (41_alu.md R162). -/
def andAccumulator (src : Src) (s : State) : Except FaultRecord State := do
  let b ← readSource s src
  let res := s.readReg .A &&& b
  advance ((s.writeReg .A res).setFlags (isZero res) false true false) (sourceLength src)

/-- XOR s (41_alu.md R163). -/
def xorAccumulator (src : Src) (s : State) : Except FaultRecord State := do
  let b ← readSource s src
  let res := s.readReg .A ^^^ b
  advance ((s.writeReg .A res).setFlags (isZero res) false false false) (sourceLength src)

/-- OR s (41_alu.md R164). -/
def orAccumulator (src : Src) (s : State) : Except FaultRecord State := do
  let b ← readSource s src
  let res := s.readReg .A ||| b
  advance ((s.writeReg .A res).setFlags (isZero res) false false false) (sourceLength src)

/-- CP s: the flags of the subtraction, A not written (41_alu.md R165). -/
def cpAccumulator (src : Src) (s : State) : Except FaultRecord State := do
  let b ← readSource s src
  let a := s.readReg .A
  let res := a - b
  advance (s.setFlags (isZero res) true (hcSub a b) (cSub a b)) (sourceLength src)

/-! ## The meanings, one per row of the opcode table -/

/-- ADD A,B (41_alu.md R160). -/
def execAdd_A_B (s : State) : Host.Outcome State Fault Refusal := commit s (addAccumulator (.reg .B) s)

/-- ADD A,C (41_alu.md R160). -/
def execAdd_A_C (s : State) : Host.Outcome State Fault Refusal := commit s (addAccumulator (.reg .C) s)

/-- ADD A,D (41_alu.md R160). -/
def execAdd_A_D (s : State) : Host.Outcome State Fault Refusal := commit s (addAccumulator (.reg .D) s)

/-- ADD A,E (41_alu.md R160). -/
def execAdd_A_E (s : State) : Host.Outcome State Fault Refusal := commit s (addAccumulator (.reg .E) s)

/-- ADD A,H (41_alu.md R160). -/
def execAdd_A_H (s : State) : Host.Outcome State Fault Refusal := commit s (addAccumulator (.reg .H) s)

/-- ADD A,L (41_alu.md R160). -/
def execAdd_A_L (s : State) : Host.Outcome State Fault Refusal := commit s (addAccumulator (.reg .L) s)

/-- ADD A,(HL) (41_alu.md R160). -/
def execAdd_A_mHL (s : State) : Host.Outcome State Fault Refusal := commit s (addAccumulator .mHL s)

/-- ADD A,A (41_alu.md R160). -/
def execAdd_A_A (s : State) : Host.Outcome State Fault Refusal := commit s (addAccumulator (.reg .A) s)

/-- ADD A,n (41_alu.md R160). -/
def execAdd_A_n (n : Byte) (s : State) : Host.Outcome State Fault Refusal := commit s (addAccumulator (.imm n) s)

/-- SUB B (41_alu.md R161). -/
def execSub_B (s : State) : Host.Outcome State Fault Refusal := commit s (subAccumulator (.reg .B) s)

/-- SUB C (41_alu.md R161). -/
def execSub_C (s : State) : Host.Outcome State Fault Refusal := commit s (subAccumulator (.reg .C) s)

/-- SUB D (41_alu.md R161). -/
def execSub_D (s : State) : Host.Outcome State Fault Refusal := commit s (subAccumulator (.reg .D) s)

/-- SUB E (41_alu.md R161). -/
def execSub_E (s : State) : Host.Outcome State Fault Refusal := commit s (subAccumulator (.reg .E) s)

/-- SUB H (41_alu.md R161). -/
def execSub_H (s : State) : Host.Outcome State Fault Refusal := commit s (subAccumulator (.reg .H) s)

/-- SUB L (41_alu.md R161). -/
def execSub_L (s : State) : Host.Outcome State Fault Refusal := commit s (subAccumulator (.reg .L) s)

/-- SUB (HL) (41_alu.md R161). -/
def execSub_mHL (s : State) : Host.Outcome State Fault Refusal := commit s (subAccumulator .mHL s)

/-- SUB A (41_alu.md R161). -/
def execSub_A (s : State) : Host.Outcome State Fault Refusal := commit s (subAccumulator (.reg .A) s)

/-- SUB n (41_alu.md R161). -/
def execSub_n (n : Byte) (s : State) : Host.Outcome State Fault Refusal := commit s (subAccumulator (.imm n) s)

/-- AND B (41_alu.md R162). -/
def execAnd_B (s : State) : Host.Outcome State Fault Refusal := commit s (andAccumulator (.reg .B) s)

/-- AND C (41_alu.md R162). -/
def execAnd_C (s : State) : Host.Outcome State Fault Refusal := commit s (andAccumulator (.reg .C) s)

/-- AND D (41_alu.md R162). -/
def execAnd_D (s : State) : Host.Outcome State Fault Refusal := commit s (andAccumulator (.reg .D) s)

/-- AND E (41_alu.md R162). -/
def execAnd_E (s : State) : Host.Outcome State Fault Refusal := commit s (andAccumulator (.reg .E) s)

/-- AND H (41_alu.md R162). -/
def execAnd_H (s : State) : Host.Outcome State Fault Refusal := commit s (andAccumulator (.reg .H) s)

/-- AND L (41_alu.md R162). -/
def execAnd_L (s : State) : Host.Outcome State Fault Refusal := commit s (andAccumulator (.reg .L) s)

/-- AND (HL) (41_alu.md R162). -/
def execAnd_mHL (s : State) : Host.Outcome State Fault Refusal := commit s (andAccumulator .mHL s)

/-- AND A (41_alu.md R162). -/
def execAnd_A (s : State) : Host.Outcome State Fault Refusal := commit s (andAccumulator (.reg .A) s)

/-- AND n (41_alu.md R162). -/
def execAnd_n (n : Byte) (s : State) : Host.Outcome State Fault Refusal := commit s (andAccumulator (.imm n) s)

/-- XOR B (41_alu.md R163). -/
def execXor_B (s : State) : Host.Outcome State Fault Refusal := commit s (xorAccumulator (.reg .B) s)

/-- XOR C (41_alu.md R163). -/
def execXor_C (s : State) : Host.Outcome State Fault Refusal := commit s (xorAccumulator (.reg .C) s)

/-- XOR D (41_alu.md R163). -/
def execXor_D (s : State) : Host.Outcome State Fault Refusal := commit s (xorAccumulator (.reg .D) s)

/-- XOR E (41_alu.md R163). -/
def execXor_E (s : State) : Host.Outcome State Fault Refusal := commit s (xorAccumulator (.reg .E) s)

/-- XOR H (41_alu.md R163). -/
def execXor_H (s : State) : Host.Outcome State Fault Refusal := commit s (xorAccumulator (.reg .H) s)

/-- XOR L (41_alu.md R163). -/
def execXor_L (s : State) : Host.Outcome State Fault Refusal := commit s (xorAccumulator (.reg .L) s)

/-- XOR (HL) (41_alu.md R163). -/
def execXor_mHL (s : State) : Host.Outcome State Fault Refusal := commit s (xorAccumulator .mHL s)

/-- XOR A (41_alu.md R163). -/
def execXor_A (s : State) : Host.Outcome State Fault Refusal := commit s (xorAccumulator (.reg .A) s)

/-- XOR n (41_alu.md R163). -/
def execXor_n (n : Byte) (s : State) : Host.Outcome State Fault Refusal := commit s (xorAccumulator (.imm n) s)

/-- OR B (41_alu.md R164). -/
def execOr_B (s : State) : Host.Outcome State Fault Refusal := commit s (orAccumulator (.reg .B) s)

/-- OR C (41_alu.md R164). -/
def execOr_C (s : State) : Host.Outcome State Fault Refusal := commit s (orAccumulator (.reg .C) s)

/-- OR D (41_alu.md R164). -/
def execOr_D (s : State) : Host.Outcome State Fault Refusal := commit s (orAccumulator (.reg .D) s)

/-- OR E (41_alu.md R164). -/
def execOr_E (s : State) : Host.Outcome State Fault Refusal := commit s (orAccumulator (.reg .E) s)

/-- OR H (41_alu.md R164). -/
def execOr_H (s : State) : Host.Outcome State Fault Refusal := commit s (orAccumulator (.reg .H) s)

/-- OR L (41_alu.md R164). -/
def execOr_L (s : State) : Host.Outcome State Fault Refusal := commit s (orAccumulator (.reg .L) s)

/-- OR (HL) (41_alu.md R164). -/
def execOr_mHL (s : State) : Host.Outcome State Fault Refusal := commit s (orAccumulator .mHL s)

/-- OR A (41_alu.md R164). -/
def execOr_A (s : State) : Host.Outcome State Fault Refusal := commit s (orAccumulator (.reg .A) s)

/-- OR n (41_alu.md R164). -/
def execOr_n (n : Byte) (s : State) : Host.Outcome State Fault Refusal := commit s (orAccumulator (.imm n) s)

/-- CP B (41_alu.md R165). -/
def execCp_B (s : State) : Host.Outcome State Fault Refusal := commit s (cpAccumulator (.reg .B) s)

/-- CP C (41_alu.md R165). -/
def execCp_C (s : State) : Host.Outcome State Fault Refusal := commit s (cpAccumulator (.reg .C) s)

/-- CP D (41_alu.md R165). -/
def execCp_D (s : State) : Host.Outcome State Fault Refusal := commit s (cpAccumulator (.reg .D) s)

/-- CP E (41_alu.md R165). -/
def execCp_E (s : State) : Host.Outcome State Fault Refusal := commit s (cpAccumulator (.reg .E) s)

/-- CP H (41_alu.md R165). -/
def execCp_H (s : State) : Host.Outcome State Fault Refusal := commit s (cpAccumulator (.reg .H) s)

/-- CP L (41_alu.md R165). -/
def execCp_L (s : State) : Host.Outcome State Fault Refusal := commit s (cpAccumulator (.reg .L) s)

/-- CP (HL) (41_alu.md R165). -/
def execCp_mHL (s : State) : Host.Outcome State Fault Refusal := commit s (cpAccumulator .mHL s)

/-- CP A (41_alu.md R165). -/
def execCp_A (s : State) : Host.Outcome State Fault Refusal := commit s (cpAccumulator (.reg .A) s)

/-- CP n (41_alu.md R165). -/
def execCp_n (n : Byte) (s : State) : Host.Outcome State Fault Refusal := commit s (cpAccumulator (.imm n) s)

end Sys2Proof.Machine
end

