-- ==== Sys2Proof/Machine/BitReset.lean ====
section
/-! DEFINITION. BitReset: RES b,r of the extended table (44_bit_reset.md R210). No flag is written. -/

namespace Sys2Proof.Machine

/-- RES b,r: `x[r] <- x[r] & ~(1 << b)` (44_bit_reset.md R210). -/
def res (b : Fin 8) (r : Reg) (s : State) : Except FaultRecord State :=
  advance (s.writeReg r (s.readReg r &&& ~~~(1#8 <<< b.val))) 2

/-! ## The meanings, one per row of the opcode table -/

/-- RES 0,B (44_bit_reset.md R210). -/
def execRes_0_B (s : State) : Host.Outcome State Fault Refusal := commit s (res 0 .B s)

/-- RES 0,C (44_bit_reset.md R210). -/
def execRes_0_C (s : State) : Host.Outcome State Fault Refusal := commit s (res 0 .C s)

/-- RES 0,D (44_bit_reset.md R210). -/
def execRes_0_D (s : State) : Host.Outcome State Fault Refusal := commit s (res 0 .D s)

/-- RES 0,E (44_bit_reset.md R210). -/
def execRes_0_E (s : State) : Host.Outcome State Fault Refusal := commit s (res 0 .E s)

/-- RES 0,H (44_bit_reset.md R210). -/
def execRes_0_H (s : State) : Host.Outcome State Fault Refusal := commit s (res 0 .H s)

/-- RES 0,L (44_bit_reset.md R210). -/
def execRes_0_L (s : State) : Host.Outcome State Fault Refusal := commit s (res 0 .L s)

/-- RES 0,A (44_bit_reset.md R210). -/
def execRes_0_A (s : State) : Host.Outcome State Fault Refusal := commit s (res 0 .A s)

/-- RES 1,B (44_bit_reset.md R210). -/
def execRes_1_B (s : State) : Host.Outcome State Fault Refusal := commit s (res 1 .B s)

/-- RES 1,C (44_bit_reset.md R210). -/
def execRes_1_C (s : State) : Host.Outcome State Fault Refusal := commit s (res 1 .C s)

/-- RES 1,D (44_bit_reset.md R210). -/
def execRes_1_D (s : State) : Host.Outcome State Fault Refusal := commit s (res 1 .D s)

/-- RES 1,E (44_bit_reset.md R210). -/
def execRes_1_E (s : State) : Host.Outcome State Fault Refusal := commit s (res 1 .E s)

/-- RES 1,H (44_bit_reset.md R210). -/
def execRes_1_H (s : State) : Host.Outcome State Fault Refusal := commit s (res 1 .H s)

/-- RES 1,L (44_bit_reset.md R210). -/
def execRes_1_L (s : State) : Host.Outcome State Fault Refusal := commit s (res 1 .L s)

/-- RES 1,A (44_bit_reset.md R210). -/
def execRes_1_A (s : State) : Host.Outcome State Fault Refusal := commit s (res 1 .A s)

/-- RES 2,B (44_bit_reset.md R210). -/
def execRes_2_B (s : State) : Host.Outcome State Fault Refusal := commit s (res 2 .B s)

/-- RES 2,C (44_bit_reset.md R210). -/
def execRes_2_C (s : State) : Host.Outcome State Fault Refusal := commit s (res 2 .C s)

/-- RES 2,D (44_bit_reset.md R210). -/
def execRes_2_D (s : State) : Host.Outcome State Fault Refusal := commit s (res 2 .D s)

/-- RES 2,E (44_bit_reset.md R210). -/
def execRes_2_E (s : State) : Host.Outcome State Fault Refusal := commit s (res 2 .E s)

/-- RES 2,H (44_bit_reset.md R210). -/
def execRes_2_H (s : State) : Host.Outcome State Fault Refusal := commit s (res 2 .H s)

/-- RES 2,L (44_bit_reset.md R210). -/
def execRes_2_L (s : State) : Host.Outcome State Fault Refusal := commit s (res 2 .L s)

/-- RES 2,A (44_bit_reset.md R210). -/
def execRes_2_A (s : State) : Host.Outcome State Fault Refusal := commit s (res 2 .A s)

/-- RES 3,B (44_bit_reset.md R210). -/
def execRes_3_B (s : State) : Host.Outcome State Fault Refusal := commit s (res 3 .B s)

/-- RES 3,C (44_bit_reset.md R210). -/
def execRes_3_C (s : State) : Host.Outcome State Fault Refusal := commit s (res 3 .C s)

/-- RES 3,D (44_bit_reset.md R210). -/
def execRes_3_D (s : State) : Host.Outcome State Fault Refusal := commit s (res 3 .D s)

/-- RES 3,E (44_bit_reset.md R210). -/
def execRes_3_E (s : State) : Host.Outcome State Fault Refusal := commit s (res 3 .E s)

/-- RES 3,H (44_bit_reset.md R210). -/
def execRes_3_H (s : State) : Host.Outcome State Fault Refusal := commit s (res 3 .H s)

/-- RES 3,L (44_bit_reset.md R210). -/
def execRes_3_L (s : State) : Host.Outcome State Fault Refusal := commit s (res 3 .L s)

/-- RES 3,A (44_bit_reset.md R210). -/
def execRes_3_A (s : State) : Host.Outcome State Fault Refusal := commit s (res 3 .A s)

/-- RES 4,B (44_bit_reset.md R210). -/
def execRes_4_B (s : State) : Host.Outcome State Fault Refusal := commit s (res 4 .B s)

/-- RES 4,C (44_bit_reset.md R210). -/
def execRes_4_C (s : State) : Host.Outcome State Fault Refusal := commit s (res 4 .C s)

/-- RES 4,D (44_bit_reset.md R210). -/
def execRes_4_D (s : State) : Host.Outcome State Fault Refusal := commit s (res 4 .D s)

/-- RES 4,E (44_bit_reset.md R210). -/
def execRes_4_E (s : State) : Host.Outcome State Fault Refusal := commit s (res 4 .E s)

/-- RES 4,H (44_bit_reset.md R210). -/
def execRes_4_H (s : State) : Host.Outcome State Fault Refusal := commit s (res 4 .H s)

/-- RES 4,L (44_bit_reset.md R210). -/
def execRes_4_L (s : State) : Host.Outcome State Fault Refusal := commit s (res 4 .L s)

/-- RES 4,A (44_bit_reset.md R210). -/
def execRes_4_A (s : State) : Host.Outcome State Fault Refusal := commit s (res 4 .A s)

/-- RES 5,B (44_bit_reset.md R210). -/
def execRes_5_B (s : State) : Host.Outcome State Fault Refusal := commit s (res 5 .B s)

/-- RES 5,C (44_bit_reset.md R210). -/
def execRes_5_C (s : State) : Host.Outcome State Fault Refusal := commit s (res 5 .C s)

/-- RES 5,D (44_bit_reset.md R210). -/
def execRes_5_D (s : State) : Host.Outcome State Fault Refusal := commit s (res 5 .D s)

/-- RES 5,E (44_bit_reset.md R210). -/
def execRes_5_E (s : State) : Host.Outcome State Fault Refusal := commit s (res 5 .E s)

/-- RES 5,H (44_bit_reset.md R210). -/
def execRes_5_H (s : State) : Host.Outcome State Fault Refusal := commit s (res 5 .H s)

/-- RES 5,L (44_bit_reset.md R210). -/
def execRes_5_L (s : State) : Host.Outcome State Fault Refusal := commit s (res 5 .L s)

/-- RES 5,A (44_bit_reset.md R210). -/
def execRes_5_A (s : State) : Host.Outcome State Fault Refusal := commit s (res 5 .A s)

/-- RES 6,B (44_bit_reset.md R210). -/
def execRes_6_B (s : State) : Host.Outcome State Fault Refusal := commit s (res 6 .B s)

/-- RES 6,C (44_bit_reset.md R210). -/
def execRes_6_C (s : State) : Host.Outcome State Fault Refusal := commit s (res 6 .C s)

/-- RES 6,D (44_bit_reset.md R210). -/
def execRes_6_D (s : State) : Host.Outcome State Fault Refusal := commit s (res 6 .D s)

/-- RES 6,E (44_bit_reset.md R210). -/
def execRes_6_E (s : State) : Host.Outcome State Fault Refusal := commit s (res 6 .E s)

/-- RES 6,H (44_bit_reset.md R210). -/
def execRes_6_H (s : State) : Host.Outcome State Fault Refusal := commit s (res 6 .H s)

/-- RES 6,L (44_bit_reset.md R210). -/
def execRes_6_L (s : State) : Host.Outcome State Fault Refusal := commit s (res 6 .L s)

/-- RES 6,A (44_bit_reset.md R210). -/
def execRes_6_A (s : State) : Host.Outcome State Fault Refusal := commit s (res 6 .A s)

/-- RES 7,B (44_bit_reset.md R210). -/
def execRes_7_B (s : State) : Host.Outcome State Fault Refusal := commit s (res 7 .B s)

/-- RES 7,C (44_bit_reset.md R210). -/
def execRes_7_C (s : State) : Host.Outcome State Fault Refusal := commit s (res 7 .C s)

/-- RES 7,D (44_bit_reset.md R210). -/
def execRes_7_D (s : State) : Host.Outcome State Fault Refusal := commit s (res 7 .D s)

/-- RES 7,E (44_bit_reset.md R210). -/
def execRes_7_E (s : State) : Host.Outcome State Fault Refusal := commit s (res 7 .E s)

/-- RES 7,H (44_bit_reset.md R210). -/
def execRes_7_H (s : State) : Host.Outcome State Fault Refusal := commit s (res 7 .H s)

/-- RES 7,L (44_bit_reset.md R210). -/
def execRes_7_L (s : State) : Host.Outcome State Fault Refusal := commit s (res 7 .L s)

/-- RES 7,A (44_bit_reset.md R210). -/
def execRes_7_A (s : State) : Host.Outcome State Fault Refusal := commit s (res 7 .A s)

end Sys2Proof.Machine
end

