-- ==== Sys2Proof/Machine/Control.lean ====
section
/-! DEFINITION. Control: the control transfers (42_control.md R190 to R194). None writes a flag; a target in an
unmapped region is accepted and faults at the next fetch. -/

namespace Sys2Proof.Machine

/-- JP nn (42_control.md R190). -/
def jp (nn : Word) (s : State) : Except FaultRecord State := .ok (s.setPc nn)

/-- The relative transfer to `pc_insn + 2 + e` (42_control.md R191, R192). -/
def jumpRelative (e : Int) (s : State) : Except FaultRecord State := do
  let target ← chk s (s.pc.toNat + 2 + e) .read
  .ok (s.setPc target)

/-- JR cc,e (42_control.md R191). -/
def jrCond (cc : Cond) (e : Int) (s : State) : Except FaultRecord State :=
  if s.condHolds cc then jumpRelative e s else advance s 2

/-- JR e (42_control.md R192). -/
def jr (e : Int) (s : State) : Except FaultRecord State := jumpRelative e s

/-- CALL nn: the return address is formed and checked before the push (42_control.md R193). -/
def call (nn : Word) (s : State) : Except FaultRecord State := do
  let ret ← chk s (s.pc.toNat + 3) .read
  let s1 ← push16 s ret
  .ok (s1.setPc nn)

/-- RET (42_control.md R194). -/
def ret (s : State) : Except FaultRecord State := do
  let (v, s1) ← pop16 s
  .ok (s1.setPc v)

/-! ## The meanings, one per row of the opcode table -/

/-- JP nn (42_control.md R190). -/
def execJp_nn (nn : Word) (s : State) : Host.Outcome State Fault Refusal := commit s (jp nn s)

/-- JR NZ,e (42_control.md R191). -/
def execJr_NZ_e (e : Int) (s : State) : Host.Outcome State Fault Refusal := commit s (jrCond .NZ e s)

/-- JR Z,e (42_control.md R191). -/
def execJr_Z_e (e : Int) (s : State) : Host.Outcome State Fault Refusal := commit s (jrCond .Z e s)

/-- JR NC,e (42_control.md R191). -/
def execJr_NC_e (e : Int) (s : State) : Host.Outcome State Fault Refusal := commit s (jrCond .NC e s)

/-- JR C,e (42_control.md R191). -/
def execJr_C_e (e : Int) (s : State) : Host.Outcome State Fault Refusal := commit s (jrCond .C e s)

/-- JR e (42_control.md R192). -/
def execJr_e (e : Int) (s : State) : Host.Outcome State Fault Refusal := commit s (jr e s)

/-- CALL nn (42_control.md R193). -/
def execCall_nn (nn : Word) (s : State) : Host.Outcome State Fault Refusal := commit s (call nn s)

/-- RET (42_control.md R194). -/
def execRet (s : State) : Host.Outcome State Fault Refusal := commit s (ret s)

end Sys2Proof.Machine
end

