-- ==== Sys2Proof/Machine/IncDec.lean ====
section
/-! DEFINITION. IncDec: increment and decrement (41_alu.md R172 to R175). The 8-bit forms leave C as it was, the 16-bit
forms write no flag (92_eei_decisions.md D12; log entry 11). -/

namespace Sys2Proof.Machine

/-- INC r (41_alu.md R172). -/
def incReg (r : Reg) (s : State) : Except FaultRecord State :=
  let v := s.readReg r
  let res := v + 1#8
  advance ((s.writeReg r res).setFlags (isZero res) false (hcInc v) s.regs.flagC) 1

/-- DEC r (41_alu.md R173). -/
def decReg (r : Reg) (s : State) : Except FaultRecord State :=
  let v := s.readReg r
  let res := v - 1#8
  advance ((s.writeReg r res).setFlags (isZero res) true (hcDec v) s.regs.flagC) 1

/-- INC rr (41_alu.md R174). -/
def incPair (dd : DPair) (s : State) : Except FaultRecord State :=
  advance (s.writePair dd (s.readPair dd + 1#16)) 1

/-- DEC rr (41_alu.md R175). -/
def decPair (dd : DPair) (s : State) : Except FaultRecord State :=
  advance (s.writePair dd (s.readPair dd - 1#16)) 1

/-! ## The meanings, one per row of the opcode table -/

/-- INC B (41_alu.md R172). -/
def execInc_B (s : State) : Host.Outcome State Fault Refusal := commit s (incReg .B s)

/-- INC C (41_alu.md R172). -/
def execInc_C (s : State) : Host.Outcome State Fault Refusal := commit s (incReg .C s)

/-- INC D (41_alu.md R172). -/
def execInc_D (s : State) : Host.Outcome State Fault Refusal := commit s (incReg .D s)

/-- INC E (41_alu.md R172). -/
def execInc_E (s : State) : Host.Outcome State Fault Refusal := commit s (incReg .E s)

/-- INC H (41_alu.md R172). -/
def execInc_H (s : State) : Host.Outcome State Fault Refusal := commit s (incReg .H s)

/-- INC L (41_alu.md R172). -/
def execInc_L (s : State) : Host.Outcome State Fault Refusal := commit s (incReg .L s)

/-- INC A (41_alu.md R172). -/
def execInc_A (s : State) : Host.Outcome State Fault Refusal := commit s (incReg .A s)

/-- DEC B (41_alu.md R173). -/
def execDec_B (s : State) : Host.Outcome State Fault Refusal := commit s (decReg .B s)

/-- DEC C (41_alu.md R173). -/
def execDec_C (s : State) : Host.Outcome State Fault Refusal := commit s (decReg .C s)

/-- DEC D (41_alu.md R173). -/
def execDec_D (s : State) : Host.Outcome State Fault Refusal := commit s (decReg .D s)

/-- DEC E (41_alu.md R173). -/
def execDec_E (s : State) : Host.Outcome State Fault Refusal := commit s (decReg .E s)

/-- DEC H (41_alu.md R173). -/
def execDec_H (s : State) : Host.Outcome State Fault Refusal := commit s (decReg .H s)

/-- DEC L (41_alu.md R173). -/
def execDec_L (s : State) : Host.Outcome State Fault Refusal := commit s (decReg .L s)

/-- DEC A (41_alu.md R173). -/
def execDec_A (s : State) : Host.Outcome State Fault Refusal := commit s (decReg .A s)

/-- INC BC (41_alu.md R174). -/
def execInc_BC (s : State) : Host.Outcome State Fault Refusal := commit s (incPair .BC s)

/-- INC DE (41_alu.md R174). -/
def execInc_DE (s : State) : Host.Outcome State Fault Refusal := commit s (incPair .DE s)

/-- INC HL (41_alu.md R174). -/
def execInc_HL (s : State) : Host.Outcome State Fault Refusal := commit s (incPair .HL s)

/-- INC SP (41_alu.md R174). -/
def execInc_SP (s : State) : Host.Outcome State Fault Refusal := commit s (incPair .SP s)

/-- DEC BC (41_alu.md R175). -/
def execDec_BC (s : State) : Host.Outcome State Fault Refusal := commit s (decPair .BC s)

/-- DEC DE (41_alu.md R175). -/
def execDec_DE (s : State) : Host.Outcome State Fault Refusal := commit s (decPair .DE s)

/-- DEC HL (41_alu.md R175). -/
def execDec_HL (s : State) : Host.Outcome State Fault Refusal := commit s (decPair .HL s)

/-- DEC SP (41_alu.md R175). -/
def execDec_SP (s : State) : Host.Outcome State Fault Refusal := commit s (decPair .SP s)

end Sys2Proof.Machine
end

