-- ==== Sys2Proof/Machine/Load.lean ====
section
/-! DEFINITION. Load: the load instructions (40_load.md R140 to R151). A load writes one destination and no flag
(R152). -/

namespace Sys2Proof.Machine

/-- LD r,r' (40_load.md R140). -/
def ldRegReg (d r : Reg) (s : State) : Except FaultRecord State :=
  advance (s.writeReg d (s.readReg r)) 1

/-- LD r,(HL) (40_load.md R141). The address is read before the destination is written. -/
def ldRegMem (d : Reg) (s : State) : Except FaultRecord State := do
  let v ← readU8 s (hlAddress s)
  advance (s.writeReg d v) 1

/-- LD (HL),r (40_load.md R142). -/
def ldMemReg (r : Reg) (s : State) : Except FaultRecord State := do
  let s1 ← writeU8 s (hlAddress s) (s.readReg r)
  advance s1 1

/-- LD r,n (40_load.md R143). -/
def ldRegImm (d : Reg) (n : Byte) (s : State) : Except FaultRecord State :=
  advance (s.writeReg d n) 2

/-- LD dd,nn (40_load.md R144). -/
def ldPairImm (dd : DPair) (nn : Word) (s : State) : Except FaultRecord State :=
  advance (s.writePair dd nn) 3

/-- LD (HL),n (40_load.md R145). -/
def ldMemImm (n : Byte) (s : State) : Except FaultRecord State := do
  let s1 ← writeU8 s (hlAddress s) n
  advance s1 2

/-- LD A,(nn) (40_load.md R146). -/
def ldADirect (nn : Word) (s : State) : Except FaultRecord State := do
  let v ← readU8 s nn
  advance (s.writeReg .A v) 3

/-- LD (nn),A (40_load.md R147). -/
def ldDirectA (nn : Word) (s : State) : Except FaultRecord State := do
  let s1 ← writeU8 s nn (s.readReg .A)
  advance s1 3

/-- LDH A,(n) (40_load.md R148). -/
def ldhAOffset (n : Byte) (s : State) : Except FaultRecord State := do
  let v ← readU8 s (zeroPage n)
  advance (s.writeReg .A v) 2

/-- LDH (n),A (40_load.md R149). -/
def ldhOffsetA (n : Byte) (s : State) : Except FaultRecord State := do
  let s1 ← writeU8 s (zeroPage n) (s.readReg .A)
  advance s1 2

/-- LD A,(C) (40_load.md R150). -/
def ldAIndexC (s : State) : Except FaultRecord State := do
  let v ← readU8 s (indexCAddress s)
  advance (s.writeReg .A v) 1

/-- LD (C),A (40_load.md R151). -/
def ldIndexCA (s : State) : Except FaultRecord State := do
  let s1 ← writeU8 s (indexCAddress s) (s.readReg .A)
  advance s1 1

/-! ## The meanings, one per row of the opcode table -/

/-- LD B,B (40_load.md R140). -/
def execLd_B_B (s : State) : Host.Outcome State Fault Refusal := commit s (ldRegReg .B .B s)

/-- LD B,C (40_load.md R140). -/
def execLd_B_C (s : State) : Host.Outcome State Fault Refusal := commit s (ldRegReg .B .C s)

/-- LD B,D (40_load.md R140). -/
def execLd_B_D (s : State) : Host.Outcome State Fault Refusal := commit s (ldRegReg .B .D s)

/-- LD B,E (40_load.md R140). -/
def execLd_B_E (s : State) : Host.Outcome State Fault Refusal := commit s (ldRegReg .B .E s)

/-- LD B,H (40_load.md R140). -/
def execLd_B_H (s : State) : Host.Outcome State Fault Refusal := commit s (ldRegReg .B .H s)

/-- LD B,L (40_load.md R140). -/
def execLd_B_L (s : State) : Host.Outcome State Fault Refusal := commit s (ldRegReg .B .L s)

/-- LD B,(HL) (40_load.md R141). -/
def execLd_B_mHL (s : State) : Host.Outcome State Fault Refusal := commit s (ldRegMem .B s)

/-- LD B,A (40_load.md R140). -/
def execLd_B_A (s : State) : Host.Outcome State Fault Refusal := commit s (ldRegReg .B .A s)

/-- LD C,B (40_load.md R140). -/
def execLd_C_B (s : State) : Host.Outcome State Fault Refusal := commit s (ldRegReg .C .B s)

/-- LD C,C (40_load.md R140). -/
def execLd_C_C (s : State) : Host.Outcome State Fault Refusal := commit s (ldRegReg .C .C s)

/-- LD C,D (40_load.md R140). -/
def execLd_C_D (s : State) : Host.Outcome State Fault Refusal := commit s (ldRegReg .C .D s)

/-- LD C,E (40_load.md R140). -/
def execLd_C_E (s : State) : Host.Outcome State Fault Refusal := commit s (ldRegReg .C .E s)

/-- LD C,H (40_load.md R140). -/
def execLd_C_H (s : State) : Host.Outcome State Fault Refusal := commit s (ldRegReg .C .H s)

/-- LD C,L (40_load.md R140). -/
def execLd_C_L (s : State) : Host.Outcome State Fault Refusal := commit s (ldRegReg .C .L s)

/-- LD C,(HL) (40_load.md R141). -/
def execLd_C_mHL (s : State) : Host.Outcome State Fault Refusal := commit s (ldRegMem .C s)

/-- LD C,A (40_load.md R140). -/
def execLd_C_A (s : State) : Host.Outcome State Fault Refusal := commit s (ldRegReg .C .A s)

/-- LD D,B (40_load.md R140). -/
def execLd_D_B (s : State) : Host.Outcome State Fault Refusal := commit s (ldRegReg .D .B s)

/-- LD D,C (40_load.md R140). -/
def execLd_D_C (s : State) : Host.Outcome State Fault Refusal := commit s (ldRegReg .D .C s)

/-- LD D,D (40_load.md R140). -/
def execLd_D_D (s : State) : Host.Outcome State Fault Refusal := commit s (ldRegReg .D .D s)

/-- LD D,E (40_load.md R140). -/
def execLd_D_E (s : State) : Host.Outcome State Fault Refusal := commit s (ldRegReg .D .E s)

/-- LD D,H (40_load.md R140). -/
def execLd_D_H (s : State) : Host.Outcome State Fault Refusal := commit s (ldRegReg .D .H s)

/-- LD D,L (40_load.md R140). -/
def execLd_D_L (s : State) : Host.Outcome State Fault Refusal := commit s (ldRegReg .D .L s)

/-- LD D,(HL) (40_load.md R141). -/
def execLd_D_mHL (s : State) : Host.Outcome State Fault Refusal := commit s (ldRegMem .D s)

/-- LD D,A (40_load.md R140). -/
def execLd_D_A (s : State) : Host.Outcome State Fault Refusal := commit s (ldRegReg .D .A s)

/-- LD E,B (40_load.md R140). -/
def execLd_E_B (s : State) : Host.Outcome State Fault Refusal := commit s (ldRegReg .E .B s)

/-- LD E,C (40_load.md R140). -/
def execLd_E_C (s : State) : Host.Outcome State Fault Refusal := commit s (ldRegReg .E .C s)

/-- LD E,D (40_load.md R140). -/
def execLd_E_D (s : State) : Host.Outcome State Fault Refusal := commit s (ldRegReg .E .D s)

/-- LD E,E (40_load.md R140). -/
def execLd_E_E (s : State) : Host.Outcome State Fault Refusal := commit s (ldRegReg .E .E s)

/-- LD E,H (40_load.md R140). -/
def execLd_E_H (s : State) : Host.Outcome State Fault Refusal := commit s (ldRegReg .E .H s)

/-- LD E,L (40_load.md R140). -/
def execLd_E_L (s : State) : Host.Outcome State Fault Refusal := commit s (ldRegReg .E .L s)

/-- LD E,(HL) (40_load.md R141). -/
def execLd_E_mHL (s : State) : Host.Outcome State Fault Refusal := commit s (ldRegMem .E s)

/-- LD E,A (40_load.md R140). -/
def execLd_E_A (s : State) : Host.Outcome State Fault Refusal := commit s (ldRegReg .E .A s)

/-- LD H,B (40_load.md R140). -/
def execLd_H_B (s : State) : Host.Outcome State Fault Refusal := commit s (ldRegReg .H .B s)

/-- LD H,C (40_load.md R140). -/
def execLd_H_C (s : State) : Host.Outcome State Fault Refusal := commit s (ldRegReg .H .C s)

/-- LD H,D (40_load.md R140). -/
def execLd_H_D (s : State) : Host.Outcome State Fault Refusal := commit s (ldRegReg .H .D s)

/-- LD H,E (40_load.md R140). -/
def execLd_H_E (s : State) : Host.Outcome State Fault Refusal := commit s (ldRegReg .H .E s)

/-- LD H,H (40_load.md R140). -/
def execLd_H_H (s : State) : Host.Outcome State Fault Refusal := commit s (ldRegReg .H .H s)

/-- LD H,L (40_load.md R140). -/
def execLd_H_L (s : State) : Host.Outcome State Fault Refusal := commit s (ldRegReg .H .L s)

/-- LD H,(HL) (40_load.md R141). -/
def execLd_H_mHL (s : State) : Host.Outcome State Fault Refusal := commit s (ldRegMem .H s)

/-- LD H,A (40_load.md R140). -/
def execLd_H_A (s : State) : Host.Outcome State Fault Refusal := commit s (ldRegReg .H .A s)

/-- LD L,B (40_load.md R140). -/
def execLd_L_B (s : State) : Host.Outcome State Fault Refusal := commit s (ldRegReg .L .B s)

/-- LD L,C (40_load.md R140). -/
def execLd_L_C (s : State) : Host.Outcome State Fault Refusal := commit s (ldRegReg .L .C s)

/-- LD L,D (40_load.md R140). -/
def execLd_L_D (s : State) : Host.Outcome State Fault Refusal := commit s (ldRegReg .L .D s)

/-- LD L,E (40_load.md R140). -/
def execLd_L_E (s : State) : Host.Outcome State Fault Refusal := commit s (ldRegReg .L .E s)

/-- LD L,H (40_load.md R140). -/
def execLd_L_H (s : State) : Host.Outcome State Fault Refusal := commit s (ldRegReg .L .H s)

/-- LD L,L (40_load.md R140). -/
def execLd_L_L (s : State) : Host.Outcome State Fault Refusal := commit s (ldRegReg .L .L s)

/-- LD L,(HL) (40_load.md R141). -/
def execLd_L_mHL (s : State) : Host.Outcome State Fault Refusal := commit s (ldRegMem .L s)

/-- LD L,A (40_load.md R140). -/
def execLd_L_A (s : State) : Host.Outcome State Fault Refusal := commit s (ldRegReg .L .A s)

/-- LD (HL),B (40_load.md R142). -/
def execLd_mHL_B (s : State) : Host.Outcome State Fault Refusal := commit s (ldMemReg .B s)

/-- LD (HL),C (40_load.md R142). -/
def execLd_mHL_C (s : State) : Host.Outcome State Fault Refusal := commit s (ldMemReg .C s)

/-- LD (HL),D (40_load.md R142). -/
def execLd_mHL_D (s : State) : Host.Outcome State Fault Refusal := commit s (ldMemReg .D s)

/-- LD (HL),E (40_load.md R142). -/
def execLd_mHL_E (s : State) : Host.Outcome State Fault Refusal := commit s (ldMemReg .E s)

/-- LD (HL),H (40_load.md R142). -/
def execLd_mHL_H (s : State) : Host.Outcome State Fault Refusal := commit s (ldMemReg .H s)

/-- LD (HL),L (40_load.md R142). -/
def execLd_mHL_L (s : State) : Host.Outcome State Fault Refusal := commit s (ldMemReg .L s)

/-- LD (HL),A (40_load.md R142). -/
def execLd_mHL_A (s : State) : Host.Outcome State Fault Refusal := commit s (ldMemReg .A s)

/-- LD A,B (40_load.md R140). -/
def execLd_A_B (s : State) : Host.Outcome State Fault Refusal := commit s (ldRegReg .A .B s)

/-- LD A,C (40_load.md R140). -/
def execLd_A_C (s : State) : Host.Outcome State Fault Refusal := commit s (ldRegReg .A .C s)

/-- LD A,D (40_load.md R140). -/
def execLd_A_D (s : State) : Host.Outcome State Fault Refusal := commit s (ldRegReg .A .D s)

/-- LD A,E (40_load.md R140). -/
def execLd_A_E (s : State) : Host.Outcome State Fault Refusal := commit s (ldRegReg .A .E s)

/-- LD A,H (40_load.md R140). -/
def execLd_A_H (s : State) : Host.Outcome State Fault Refusal := commit s (ldRegReg .A .H s)

/-- LD A,L (40_load.md R140). -/
def execLd_A_L (s : State) : Host.Outcome State Fault Refusal := commit s (ldRegReg .A .L s)

/-- LD A,(HL) (40_load.md R141). -/
def execLd_A_mHL (s : State) : Host.Outcome State Fault Refusal := commit s (ldRegMem .A s)

/-- LD A,A (40_load.md R140). -/
def execLd_A_A (s : State) : Host.Outcome State Fault Refusal := commit s (ldRegReg .A .A s)

/-- LD B,n (40_load.md R143). -/
def execLd_B_n (n : Byte) (s : State) : Host.Outcome State Fault Refusal := commit s (ldRegImm .B n s)

/-- LD C,n (40_load.md R143). -/
def execLd_C_n (n : Byte) (s : State) : Host.Outcome State Fault Refusal := commit s (ldRegImm .C n s)

/-- LD D,n (40_load.md R143). -/
def execLd_D_n (n : Byte) (s : State) : Host.Outcome State Fault Refusal := commit s (ldRegImm .D n s)

/-- LD E,n (40_load.md R143). -/
def execLd_E_n (n : Byte) (s : State) : Host.Outcome State Fault Refusal := commit s (ldRegImm .E n s)

/-- LD H,n (40_load.md R143). -/
def execLd_H_n (n : Byte) (s : State) : Host.Outcome State Fault Refusal := commit s (ldRegImm .H n s)

/-- LD L,n (40_load.md R143). -/
def execLd_L_n (n : Byte) (s : State) : Host.Outcome State Fault Refusal := commit s (ldRegImm .L n s)

/-- LD (HL),n (40_load.md R145). -/
def execLd_mHL_n (n : Byte) (s : State) : Host.Outcome State Fault Refusal := commit s (ldMemImm n s)

/-- LD A,n (40_load.md R143). -/
def execLd_A_n (n : Byte) (s : State) : Host.Outcome State Fault Refusal := commit s (ldRegImm .A n s)

/-- LD BC,nn (40_load.md R144). -/
def execLd_BC_nn (nn : Word) (s : State) : Host.Outcome State Fault Refusal := commit s (ldPairImm .BC nn s)

/-- LD DE,nn (40_load.md R144). -/
def execLd_DE_nn (nn : Word) (s : State) : Host.Outcome State Fault Refusal := commit s (ldPairImm .DE nn s)

/-- LD HL,nn (40_load.md R144). -/
def execLd_HL_nn (nn : Word) (s : State) : Host.Outcome State Fault Refusal := commit s (ldPairImm .HL nn s)

/-- LD SP,nn (40_load.md R144). -/
def execLd_SP_nn (nn : Word) (s : State) : Host.Outcome State Fault Refusal := commit s (ldPairImm .SP nn s)

/-- LD A,(nn) (40_load.md R146). -/
def execLd_A_mnn (nn : Word) (s : State) : Host.Outcome State Fault Refusal := commit s (ldADirect nn s)

/-- LD (nn),A (40_load.md R147). -/
def execLd_mnn_A (nn : Word) (s : State) : Host.Outcome State Fault Refusal := commit s (ldDirectA nn s)

/-- LDH A,(n) (40_load.md R148). -/
def execLdh_A_mn (n : Byte) (s : State) : Host.Outcome State Fault Refusal := commit s (ldhAOffset n s)

/-- LDH (n),A (40_load.md R149). -/
def execLdh_mn_A (n : Byte) (s : State) : Host.Outcome State Fault Refusal := commit s (ldhOffsetA n s)

/-- LD A,(C) (40_load.md R150). -/
def execLd_A_mC (s : State) : Host.Outcome State Fault Refusal := commit s (ldAIndexC s)

/-- LD (C),A (40_load.md R151). -/
def execLd_mC_A (s : State) : Host.Outcome State Fault Refusal := commit s (ldIndexCA s)

end Sys2Proof.Machine
end

