-- ==== Sys2Proof/Machine/Misc.lean ====
section
/-! DEFINITION. Misc: NOP and DI (45_misc.md R215, R216). The CORE holds no interrupt-enable state, so DI changes only
the pc (92_eei_decisions.md D23). -/

namespace Sys2Proof.Machine

/-- NOP (45_misc.md R215). -/
def nop (s : State) : Except FaultRecord State := advance s 1

/-- DI (45_misc.md R216). -/
def di (s : State) : Except FaultRecord State := advance s 1

/-! ## The meanings, one per row of the opcode table -/

/-- NOP (45_misc.md R215). -/
def execNop (s : State) : Host.Outcome State Fault Refusal := commit s (nop s)

/-- DI (45_misc.md R216). -/
def execDi (s : State) : Host.Outcome State Fault Refusal := commit s (di s)

end Sys2Proof.Machine
end

