-- ==== Sys2Proof/Machine/Stack.lean ====
section
/-! DEFINITION. Stack: PUSH and POP (43_stack.md R200, R201) over the primitives of R202. -/

namespace Sys2Proof.Machine

/-- PUSH qq (43_stack.md R200). -/
def push (qq : QPair) (s : State) : Except FaultRecord State := do
  let s1 ← push16 s (s.readStackPair qq)
  advance s1 1

/-- POP qq (43_stack.md R201). -/
def pop (qq : QPair) (s : State) : Except FaultRecord State := do
  let (v, s1) ← pop16 s
  advance (s1.writeStackPair qq v) 1

/-! ## The meanings, one per row of the opcode table -/

/-- PUSH BC (43_stack.md R200). -/
def execPush_BC (s : State) : Host.Outcome State Fault Refusal := commit s (push .BC s)

/-- PUSH DE (43_stack.md R200). -/
def execPush_DE (s : State) : Host.Outcome State Fault Refusal := commit s (push .DE s)

/-- PUSH HL (43_stack.md R200). -/
def execPush_HL (s : State) : Host.Outcome State Fault Refusal := commit s (push .HL s)

/-- PUSH AF (43_stack.md R200). -/
def execPush_AF (s : State) : Host.Outcome State Fault Refusal := commit s (push .AF s)

/-- POP BC (43_stack.md R201). -/
def execPop_BC (s : State) : Host.Outcome State Fault Refusal := commit s (pop .BC s)

/-- POP DE (43_stack.md R201). -/
def execPop_DE (s : State) : Host.Outcome State Fault Refusal := commit s (pop .DE s)

/-- POP HL (43_stack.md R201). -/
def execPop_HL (s : State) : Host.Outcome State Fault Refusal := commit s (pop .HL s)

/-- POP AF (43_stack.md R201). -/
def execPop_AF (s : State) : Host.Outcome State Fault Refusal := commit s (pop .AF s)

end Sys2Proof.Machine
end

