-- ==== Sys2Proof/Machine/Dispatch.lean ====
section
/-! DEFINITION. Dispatch: one arm per instruction, in the order of spec/opcode_table.json. -/

namespace Sys2Proof.Machine

-- The meaning of an instruction in the state before it, whose pc is the address of its first byte.
def exec (i : Instr) (s : State) : Host.Outcome State Fault Refusal :=
  match i with
  | .ld_B_B => Sys2Proof.Machine.execLd_B_B s
  | .ld_B_C => Sys2Proof.Machine.execLd_B_C s
  | .ld_B_D => Sys2Proof.Machine.execLd_B_D s
  | .ld_B_E => Sys2Proof.Machine.execLd_B_E s
  | .ld_B_H => Sys2Proof.Machine.execLd_B_H s
  | .ld_B_L => Sys2Proof.Machine.execLd_B_L s
  | .ld_B_mHL => Sys2Proof.Machine.execLd_B_mHL s
  | .ld_B_A => Sys2Proof.Machine.execLd_B_A s
  | .ld_C_B => Sys2Proof.Machine.execLd_C_B s
  | .ld_C_C => Sys2Proof.Machine.execLd_C_C s
  | .ld_C_D => Sys2Proof.Machine.execLd_C_D s
  | .ld_C_E => Sys2Proof.Machine.execLd_C_E s
  | .ld_C_H => Sys2Proof.Machine.execLd_C_H s
  | .ld_C_L => Sys2Proof.Machine.execLd_C_L s
  | .ld_C_mHL => Sys2Proof.Machine.execLd_C_mHL s
  | .ld_C_A => Sys2Proof.Machine.execLd_C_A s
  | .ld_D_B => Sys2Proof.Machine.execLd_D_B s
  | .ld_D_C => Sys2Proof.Machine.execLd_D_C s
  | .ld_D_D => Sys2Proof.Machine.execLd_D_D s
  | .ld_D_E => Sys2Proof.Machine.execLd_D_E s
  | .ld_D_H => Sys2Proof.Machine.execLd_D_H s
  | .ld_D_L => Sys2Proof.Machine.execLd_D_L s
  | .ld_D_mHL => Sys2Proof.Machine.execLd_D_mHL s
  | .ld_D_A => Sys2Proof.Machine.execLd_D_A s
  | .ld_E_B => Sys2Proof.Machine.execLd_E_B s
  | .ld_E_C => Sys2Proof.Machine.execLd_E_C s
  | .ld_E_D => Sys2Proof.Machine.execLd_E_D s
  | .ld_E_E => Sys2Proof.Machine.execLd_E_E s
  | .ld_E_H => Sys2Proof.Machine.execLd_E_H s
  | .ld_E_L => Sys2Proof.Machine.execLd_E_L s
  | .ld_E_mHL => Sys2Proof.Machine.execLd_E_mHL s
  | .ld_E_A => Sys2Proof.Machine.execLd_E_A s
  | .ld_H_B => Sys2Proof.Machine.execLd_H_B s
  | .ld_H_C => Sys2Proof.Machine.execLd_H_C s
  | .ld_H_D => Sys2Proof.Machine.execLd_H_D s
  | .ld_H_E => Sys2Proof.Machine.execLd_H_E s
  | .ld_H_H => Sys2Proof.Machine.execLd_H_H s
  | .ld_H_L => Sys2Proof.Machine.execLd_H_L s
  | .ld_H_mHL => Sys2Proof.Machine.execLd_H_mHL s
  | .ld_H_A => Sys2Proof.Machine.execLd_H_A s
  | .ld_L_B => Sys2Proof.Machine.execLd_L_B s
  | .ld_L_C => Sys2Proof.Machine.execLd_L_C s
  | .ld_L_D => Sys2Proof.Machine.execLd_L_D s
  | .ld_L_E => Sys2Proof.Machine.execLd_L_E s
  | .ld_L_H => Sys2Proof.Machine.execLd_L_H s
  | .ld_L_L => Sys2Proof.Machine.execLd_L_L s
  | .ld_L_mHL => Sys2Proof.Machine.execLd_L_mHL s
  | .ld_L_A => Sys2Proof.Machine.execLd_L_A s
  | .ld_mHL_B => Sys2Proof.Machine.execLd_mHL_B s
  | .ld_mHL_C => Sys2Proof.Machine.execLd_mHL_C s
  | .ld_mHL_D => Sys2Proof.Machine.execLd_mHL_D s
  | .ld_mHL_E => Sys2Proof.Machine.execLd_mHL_E s
  | .ld_mHL_H => Sys2Proof.Machine.execLd_mHL_H s
  | .ld_mHL_L => Sys2Proof.Machine.execLd_mHL_L s
  | .ld_mHL_A => Sys2Proof.Machine.execLd_mHL_A s
  | .ld_A_B => Sys2Proof.Machine.execLd_A_B s
  | .ld_A_C => Sys2Proof.Machine.execLd_A_C s
  | .ld_A_D => Sys2Proof.Machine.execLd_A_D s
  | .ld_A_E => Sys2Proof.Machine.execLd_A_E s
  | .ld_A_H => Sys2Proof.Machine.execLd_A_H s
  | .ld_A_L => Sys2Proof.Machine.execLd_A_L s
  | .ld_A_mHL => Sys2Proof.Machine.execLd_A_mHL s
  | .ld_A_A => Sys2Proof.Machine.execLd_A_A s
  | .ld_B_n n => Sys2Proof.Machine.execLd_B_n n s
  | .ld_C_n n => Sys2Proof.Machine.execLd_C_n n s
  | .ld_D_n n => Sys2Proof.Machine.execLd_D_n n s
  | .ld_E_n n => Sys2Proof.Machine.execLd_E_n n s
  | .ld_H_n n => Sys2Proof.Machine.execLd_H_n n s
  | .ld_L_n n => Sys2Proof.Machine.execLd_L_n n s
  | .ld_mHL_n n => Sys2Proof.Machine.execLd_mHL_n n s
  | .ld_A_n n => Sys2Proof.Machine.execLd_A_n n s
  | .ld_BC_nn nn => Sys2Proof.Machine.execLd_BC_nn nn s
  | .ld_DE_nn nn => Sys2Proof.Machine.execLd_DE_nn nn s
  | .ld_HL_nn nn => Sys2Proof.Machine.execLd_HL_nn nn s
  | .ld_SP_nn nn => Sys2Proof.Machine.execLd_SP_nn nn s
  | .ld_A_mnn nn => Sys2Proof.Machine.execLd_A_mnn nn s
  | .ld_mnn_A nn => Sys2Proof.Machine.execLd_mnn_A nn s
  | .ldh_A_mn n => Sys2Proof.Machine.execLdh_A_mn n s
  | .ldh_mn_A n => Sys2Proof.Machine.execLdh_mn_A n s
  | .ld_A_mC => Sys2Proof.Machine.execLd_A_mC s
  | .ld_mC_A => Sys2Proof.Machine.execLd_mC_A s
  | .add_A_B => Sys2Proof.Machine.execAdd_A_B s
  | .add_A_C => Sys2Proof.Machine.execAdd_A_C s
  | .add_A_D => Sys2Proof.Machine.execAdd_A_D s
  | .add_A_E => Sys2Proof.Machine.execAdd_A_E s
  | .add_A_H => Sys2Proof.Machine.execAdd_A_H s
  | .add_A_L => Sys2Proof.Machine.execAdd_A_L s
  | .add_A_mHL => Sys2Proof.Machine.execAdd_A_mHL s
  | .add_A_A => Sys2Proof.Machine.execAdd_A_A s
  | .add_A_n n => Sys2Proof.Machine.execAdd_A_n n s
  | .sub_B => Sys2Proof.Machine.execSub_B s
  | .sub_C => Sys2Proof.Machine.execSub_C s
  | .sub_D => Sys2Proof.Machine.execSub_D s
  | .sub_E => Sys2Proof.Machine.execSub_E s
  | .sub_H => Sys2Proof.Machine.execSub_H s
  | .sub_L => Sys2Proof.Machine.execSub_L s
  | .sub_mHL => Sys2Proof.Machine.execSub_mHL s
  | .sub_A => Sys2Proof.Machine.execSub_A s
  | .sub_n n => Sys2Proof.Machine.execSub_n n s
  | .and_B => Sys2Proof.Machine.execAnd_B s
  | .and_C => Sys2Proof.Machine.execAnd_C s
  | .and_D => Sys2Proof.Machine.execAnd_D s
  | .and_E => Sys2Proof.Machine.execAnd_E s
  | .and_H => Sys2Proof.Machine.execAnd_H s
  | .and_L => Sys2Proof.Machine.execAnd_L s
  | .and_mHL => Sys2Proof.Machine.execAnd_mHL s
  | .and_A => Sys2Proof.Machine.execAnd_A s
  | .and_n n => Sys2Proof.Machine.execAnd_n n s
  | .xor_B => Sys2Proof.Machine.execXor_B s
  | .xor_C => Sys2Proof.Machine.execXor_C s
  | .xor_D => Sys2Proof.Machine.execXor_D s
  | .xor_E => Sys2Proof.Machine.execXor_E s
  | .xor_H => Sys2Proof.Machine.execXor_H s
  | .xor_L => Sys2Proof.Machine.execXor_L s
  | .xor_mHL => Sys2Proof.Machine.execXor_mHL s
  | .xor_A => Sys2Proof.Machine.execXor_A s
  | .xor_n n => Sys2Proof.Machine.execXor_n n s
  | .or_B => Sys2Proof.Machine.execOr_B s
  | .or_C => Sys2Proof.Machine.execOr_C s
  | .or_D => Sys2Proof.Machine.execOr_D s
  | .or_E => Sys2Proof.Machine.execOr_E s
  | .or_H => Sys2Proof.Machine.execOr_H s
  | .or_L => Sys2Proof.Machine.execOr_L s
  | .or_mHL => Sys2Proof.Machine.execOr_mHL s
  | .or_A => Sys2Proof.Machine.execOr_A s
  | .or_n n => Sys2Proof.Machine.execOr_n n s
  | .cp_B => Sys2Proof.Machine.execCp_B s
  | .cp_C => Sys2Proof.Machine.execCp_C s
  | .cp_D => Sys2Proof.Machine.execCp_D s
  | .cp_E => Sys2Proof.Machine.execCp_E s
  | .cp_H => Sys2Proof.Machine.execCp_H s
  | .cp_L => Sys2Proof.Machine.execCp_L s
  | .cp_mHL => Sys2Proof.Machine.execCp_mHL s
  | .cp_A => Sys2Proof.Machine.execCp_A s
  | .cp_n n => Sys2Proof.Machine.execCp_n n s
  | .inc_B => Sys2Proof.Machine.execInc_B s
  | .inc_C => Sys2Proof.Machine.execInc_C s
  | .inc_D => Sys2Proof.Machine.execInc_D s
  | .inc_E => Sys2Proof.Machine.execInc_E s
  | .inc_H => Sys2Proof.Machine.execInc_H s
  | .inc_L => Sys2Proof.Machine.execInc_L s
  | .inc_A => Sys2Proof.Machine.execInc_A s
  | .dec_B => Sys2Proof.Machine.execDec_B s
  | .dec_C => Sys2Proof.Machine.execDec_C s
  | .dec_D => Sys2Proof.Machine.execDec_D s
  | .dec_E => Sys2Proof.Machine.execDec_E s
  | .dec_H => Sys2Proof.Machine.execDec_H s
  | .dec_L => Sys2Proof.Machine.execDec_L s
  | .dec_A => Sys2Proof.Machine.execDec_A s
  | .inc_BC => Sys2Proof.Machine.execInc_BC s
  | .inc_DE => Sys2Proof.Machine.execInc_DE s
  | .inc_HL => Sys2Proof.Machine.execInc_HL s
  | .inc_SP => Sys2Proof.Machine.execInc_SP s
  | .dec_BC => Sys2Proof.Machine.execDec_BC s
  | .dec_DE => Sys2Proof.Machine.execDec_DE s
  | .dec_HL => Sys2Proof.Machine.execDec_HL s
  | .dec_SP => Sys2Proof.Machine.execDec_SP s
  | .jp_nn nn => Sys2Proof.Machine.execJp_nn nn s
  | .jr_NZ_e e => Sys2Proof.Machine.execJr_NZ_e e s
  | .jr_Z_e e => Sys2Proof.Machine.execJr_Z_e e s
  | .jr_NC_e e => Sys2Proof.Machine.execJr_NC_e e s
  | .jr_C_e e => Sys2Proof.Machine.execJr_C_e e s
  | .jr_e e => Sys2Proof.Machine.execJr_e e s
  | .call_nn nn => Sys2Proof.Machine.execCall_nn nn s
  | .ret => Sys2Proof.Machine.execRet s
  | .push_BC => Sys2Proof.Machine.execPush_BC s
  | .push_DE => Sys2Proof.Machine.execPush_DE s
  | .push_HL => Sys2Proof.Machine.execPush_HL s
  | .push_AF => Sys2Proof.Machine.execPush_AF s
  | .pop_BC => Sys2Proof.Machine.execPop_BC s
  | .pop_DE => Sys2Proof.Machine.execPop_DE s
  | .pop_HL => Sys2Proof.Machine.execPop_HL s
  | .pop_AF => Sys2Proof.Machine.execPop_AF s
  | .res_0_B => Sys2Proof.Machine.execRes_0_B s
  | .res_0_C => Sys2Proof.Machine.execRes_0_C s
  | .res_0_D => Sys2Proof.Machine.execRes_0_D s
  | .res_0_E => Sys2Proof.Machine.execRes_0_E s
  | .res_0_H => Sys2Proof.Machine.execRes_0_H s
  | .res_0_L => Sys2Proof.Machine.execRes_0_L s
  | .res_0_A => Sys2Proof.Machine.execRes_0_A s
  | .res_1_B => Sys2Proof.Machine.execRes_1_B s
  | .res_1_C => Sys2Proof.Machine.execRes_1_C s
  | .res_1_D => Sys2Proof.Machine.execRes_1_D s
  | .res_1_E => Sys2Proof.Machine.execRes_1_E s
  | .res_1_H => Sys2Proof.Machine.execRes_1_H s
  | .res_1_L => Sys2Proof.Machine.execRes_1_L s
  | .res_1_A => Sys2Proof.Machine.execRes_1_A s
  | .res_2_B => Sys2Proof.Machine.execRes_2_B s
  | .res_2_C => Sys2Proof.Machine.execRes_2_C s
  | .res_2_D => Sys2Proof.Machine.execRes_2_D s
  | .res_2_E => Sys2Proof.Machine.execRes_2_E s
  | .res_2_H => Sys2Proof.Machine.execRes_2_H s
  | .res_2_L => Sys2Proof.Machine.execRes_2_L s
  | .res_2_A => Sys2Proof.Machine.execRes_2_A s
  | .res_3_B => Sys2Proof.Machine.execRes_3_B s
  | .res_3_C => Sys2Proof.Machine.execRes_3_C s
  | .res_3_D => Sys2Proof.Machine.execRes_3_D s
  | .res_3_E => Sys2Proof.Machine.execRes_3_E s
  | .res_3_H => Sys2Proof.Machine.execRes_3_H s
  | .res_3_L => Sys2Proof.Machine.execRes_3_L s
  | .res_3_A => Sys2Proof.Machine.execRes_3_A s
  | .res_4_B => Sys2Proof.Machine.execRes_4_B s
  | .res_4_C => Sys2Proof.Machine.execRes_4_C s
  | .res_4_D => Sys2Proof.Machine.execRes_4_D s
  | .res_4_E => Sys2Proof.Machine.execRes_4_E s
  | .res_4_H => Sys2Proof.Machine.execRes_4_H s
  | .res_4_L => Sys2Proof.Machine.execRes_4_L s
  | .res_4_A => Sys2Proof.Machine.execRes_4_A s
  | .res_5_B => Sys2Proof.Machine.execRes_5_B s
  | .res_5_C => Sys2Proof.Machine.execRes_5_C s
  | .res_5_D => Sys2Proof.Machine.execRes_5_D s
  | .res_5_E => Sys2Proof.Machine.execRes_5_E s
  | .res_5_H => Sys2Proof.Machine.execRes_5_H s
  | .res_5_L => Sys2Proof.Machine.execRes_5_L s
  | .res_5_A => Sys2Proof.Machine.execRes_5_A s
  | .res_6_B => Sys2Proof.Machine.execRes_6_B s
  | .res_6_C => Sys2Proof.Machine.execRes_6_C s
  | .res_6_D => Sys2Proof.Machine.execRes_6_D s
  | .res_6_E => Sys2Proof.Machine.execRes_6_E s
  | .res_6_H => Sys2Proof.Machine.execRes_6_H s
  | .res_6_L => Sys2Proof.Machine.execRes_6_L s
  | .res_6_A => Sys2Proof.Machine.execRes_6_A s
  | .res_7_B => Sys2Proof.Machine.execRes_7_B s
  | .res_7_C => Sys2Proof.Machine.execRes_7_C s
  | .res_7_D => Sys2Proof.Machine.execRes_7_D s
  | .res_7_E => Sys2Proof.Machine.execRes_7_E s
  | .res_7_H => Sys2Proof.Machine.execRes_7_H s
  | .res_7_L => Sys2Proof.Machine.execRes_7_L s
  | .res_7_A => Sys2Proof.Machine.execRes_7_A s
  | .nop => Sys2Proof.Machine.execNop s
  | .di => Sys2Proof.Machine.execDi s

end Sys2Proof.Machine
end

