-- ==== Sys2Proof/WellFormed.lean ====
section
/-! DEFINITION. WellFormed: the one check on an instruction that its type does not make, the range of a relative
displacement (30_encoding.md R117). Every other operand field admits each value of its type, and no constructor names
an addressing mode an instruction does not have (R130). -/

namespace Sys2Proof

/-- A displacement that byte 2 of a relative jump can encode: −128 … +127 (30_encoding.md R117). -/
def displacementOk (e : Int) : Bool := decide (-128 ≤ e) && decide (e ≤ 127)

/-- Whether an instruction has an encoding. -/
def Form.wellFormed : Form → Bool
  | .jrCond _ e => displacementOk e
  | .jr e => displacementOk e
  | .ldRegReg _ _ => true
  | .ldRegMem _ => true
  | .ldMemReg _ => true
  | .ldRegImm _ _ => true
  | .ldPairImm _ _ => true
  | .ldMemImm _ => true
  | .ldADirect _ => true
  | .ldDirectA _ => true
  | .ldhAOffset _ => true
  | .ldhOffsetA _ => true
  | .ldAIndexC => true
  | .ldIndexCA => true
  | .alu _ _ => true
  | .incReg _ => true
  | .decReg _ => true
  | .incPair _ => true
  | .decPair _ => true
  | .jp _ => true
  | .call _ => true
  | .ret => true
  | .push _ => true
  | .pop _ => true
  | .res _ _ => true
  | .nop => true
  | .di => true

/-- Whether a row of the table with given operands has an encoding. -/
def Instr.wellFormed (i : Instr) : Bool := i.form.wellFormed

end Sys2Proof
end

