-- ==== Sys2Proof/Decode.lean ====
section
/-! DEFINITION. Decode: the decoder, total on any bytes (30_encoding.md R112, R122 to R129), and after it the encoder
written from the same patterns. The opcode byte values are those of R122 and R123, which the spec supplies from general
knowledge but for NOP (92_eei_decisions.md D1, D2; log entry 10). -/

namespace Sys2Proof

/-! ## Field codes -/

/-- The register a 3-bit code names, none for code 110, the memory operand (30_encoding.md R113). -/
def Reg.ofCode (c : BitVec 3) : Option Reg :=
  if c = 0b000#3 then some .B
  else if c = 0b001#3 then some .C
  else if c = 0b010#3 then some .D
  else if c = 0b011#3 then some .E
  else if c = 0b100#3 then some .H
  else if c = 0b101#3 then some .L
  else if c = 0b111#3 then some .A
  else none

/-- The 3-bit code of a register (30_encoding.md R113). -/
def Reg.code : Reg → BitVec 3
  | .B => 0b000#3
  | .C => 0b001#3
  | .D => 0b010#3
  | .E => 0b011#3
  | .H => 0b100#3
  | .L => 0b101#3
  | .A => 0b111#3

/-- The pair a 2-bit field `dd` names (30_encoding.md R114). -/
def DPair.ofCode (c : BitVec 2) : DPair :=
  if c = 0b00#2 then .BC else if c = 0b01#2 then .DE else if c = 0b10#2 then .HL else .SP

/-- The 2-bit field `dd` of a pair (30_encoding.md R114). -/
def DPair.code : DPair → BitVec 2
  | .BC => 0b00#2
  | .DE => 0b01#2
  | .HL => 0b10#2
  | .SP => 0b11#2

/-- The pair a 2-bit field `qq` names (30_encoding.md R114). -/
def QPair.ofCode (c : BitVec 2) : QPair :=
  if c = 0b00#2 then .BC else if c = 0b01#2 then .DE else if c = 0b10#2 then .HL else .AF

/-- The 2-bit field `qq` of a pair (30_encoding.md R114). -/
def QPair.code : QPair → BitVec 2
  | .BC => 0b00#2
  | .DE => 0b01#2
  | .HL => 0b10#2
  | .AF => 0b11#2

/-- The condition a 2-bit field `cc` names (30_encoding.md R119). -/
def Cond.ofCode (c : BitVec 2) : Cond :=
  if c = 0b00#2 then .NZ else if c = 0b01#2 then .Z else if c = 0b10#2 then .NC else .C

/-- The 2-bit field `cc` of a condition (30_encoding.md R119). -/
def Cond.code : Cond → BitVec 2
  | .NZ => 0b00#2
  | .Z => 0b01#2
  | .NC => 0b10#2
  | .C => 0b11#2

/-- The 3-bit field `alu` of an operation (30_encoding.md R121). -/
def AluOp.code : AluOp → BitVec 3
  | .add => 0b000#3
  | .sub => 0b010#3
  | .and => 0b100#3
  | .xor => 0b101#3
  | .or => 0b110#3
  | .cp => 0b111#3

/-- The source operand a 3-bit code names in `10 alu sss` (30_encoding.md R113, 41_alu.md R166). -/
def Src.ofCode (c : BitVec 3) : Src :=
  match Reg.ofCode c with
  | some r => .reg r
  | none => .mHL

/-- The bit index of the 3-bit field `b` (30_encoding.md R120). -/
def bitIndexOfCode (c : BitVec 3) : Fin 8 := c.toFin

/-- The 3-bit field `b` of a bit index (30_encoding.md R120). -/
def bitIndexCode (b : Fin 8) : BitVec 3 := BitVec.ofFin b

/-! ## The decoder -/

/-- A decoded first byte: an instruction, or one that waits for its operand bytes (30_encoding.md R111, R112). -/
inductive Opcode where
  /-- format B1 -/
  | noOperand (f : Form)
  /-- formats B2i, B2z and B2r: one operand byte -/
  | operand8 (f : Byte → Form)
  /-- format B3: two operand bytes, read as one little-endian word (R116) -/
  | operand16 (f : Word → Form)

/-- The encoded length an opcode byte fixes (30_encoding.md R129). -/
def Opcode.length : Opcode → Nat
  | .noOperand _ => 1
  | .operand8 _ => 2
  | .operand16 _ => 3

/-- One row of 30_encoding.md R122: the bits a byte must have, and the opcode its fields give; none where the row
excludes the byte. -/
structure PrimaryRow where
  mask : Byte
  pattern : Byte
  opcode : Byte → Option Opcode

/-- Bits [5:3] of an opcode byte (`ddd`, `alu`). -/
def field53 (b : Byte) : BitVec 3 := b.extractLsb' 3 3

/-- Bits [2:0] of an opcode byte (`sss`, `rrr`). -/
def field20 (b : Byte) : BitVec 3 := b.extractLsb' 0 3

/-- Bits [5:4] of an opcode byte (`dd`, `qq`). -/
def field54 (b : Byte) : BitVec 2 := b.extractLsb' 4 2

/-- Bits [4:3] of an opcode byte (`cc`). -/
def field43 (b : Byte) : BitVec 2 := b.extractLsb' 3 2

/-- The row `01dddsss`: LD r,r', LD r,(HL) or LD (HL),r; ddd = sss = 110 (0x76) is excluded (30_encoding.md R122). -/
def loadOpcode (d s : BitVec 3) : Option Opcode :=
  match Reg.ofCode d, Reg.ofCode s with
  | some rd, some rs => some (.noOperand (.ldRegReg rd rs))
  | some rd, none => some (.noOperand (.ldRegMem rd))
  | none, some rs => some (.noOperand (.ldMemReg rs))
  | none, none => none

/-- The row `00ddd110`: LD r,n, or LD (HL),n when ddd = 110 (30_encoding.md R122). -/
def loadImmOpcode (d : BitVec 3) : Option Opcode :=
  match Reg.ofCode d with
  | some r => some (.operand8 (.ldRegImm r))
  | none => some (.operand8 .ldMemImm)

/-- The rows `00ddd100` and `00ddd101`: a register operation, ddd = 110 is excluded (30_encoding.md R122). -/
def registerOpcode (f : Reg → Form) (d : BitVec 3) : Option Opcode :=
  match Reg.ofCode d with
  | some r => some (.noOperand (f r))
  | none => none

/-- 30_encoding.md R122, row by row (the row of the 0xCB escape byte is R123's, see `decodeExtended`). -/
def primaryRows : List PrimaryRow :=
  [ ⟨0b11111111, 0b00000000, fun _ => some (.noOperand .nop)⟩,
    ⟨0b11001111, 0b00000001, fun b => some (.operand16 (.ldPairImm (DPair.ofCode (field54 b))))⟩,
    ⟨0b11001111, 0b00000011, fun b => some (.noOperand (.incPair (DPair.ofCode (field54 b))))⟩,
    ⟨0b11001111, 0b00001011, fun b => some (.noOperand (.decPair (DPair.ofCode (field54 b))))⟩,
    ⟨0b11000111, 0b00000100, fun b => registerOpcode .incReg (field53 b)⟩,
    ⟨0b11000111, 0b00000101, fun b => registerOpcode .decReg (field53 b)⟩,
    ⟨0b11000111, 0b00000110, fun b => loadImmOpcode (field53 b)⟩,
    ⟨0b11111111, 0b00011000, fun _ => some (.operand8 fun e => .jr (sext8 e))⟩,
    ⟨0b11100111, 0b00100000, fun b => some (.operand8 fun e => .jrCond (Cond.ofCode (field43 b)) (sext8 e))⟩,
    ⟨0b11000000, 0b01000000, fun b => loadOpcode (field53 b) (field20 b)⟩ ]
  ++
  [ ⟨0b11111000, 0b10000000, fun b => some (.noOperand (.alu .add (Src.ofCode (field20 b))))⟩,
    ⟨0b11111000, 0b10010000, fun b => some (.noOperand (.alu .sub (Src.ofCode (field20 b))))⟩,
    ⟨0b11111000, 0b10100000, fun b => some (.noOperand (.alu .and (Src.ofCode (field20 b))))⟩,
    ⟨0b11111000, 0b10101000, fun b => some (.noOperand (.alu .xor (Src.ofCode (field20 b))))⟩,
    ⟨0b11111000, 0b10110000, fun b => some (.noOperand (.alu .or (Src.ofCode (field20 b))))⟩,
    ⟨0b11111000, 0b10111000, fun b => some (.noOperand (.alu .cp (Src.ofCode (field20 b))))⟩,
    ⟨0b11111111, 0b11000110, fun _ => some (.operand8 fun n => .alu .add (.imm n))⟩,
    ⟨0b11111111, 0b11010110, fun _ => some (.operand8 fun n => .alu .sub (.imm n))⟩,
    ⟨0b11111111, 0b11100110, fun _ => some (.operand8 fun n => .alu .and (.imm n))⟩,
    ⟨0b11111111, 0b11101110, fun _ => some (.operand8 fun n => .alu .xor (.imm n))⟩,
    ⟨0b11111111, 0b11110110, fun _ => some (.operand8 fun n => .alu .or (.imm n))⟩,
    ⟨0b11111111, 0b11111110, fun _ => some (.operand8 fun n => .alu .cp (.imm n))⟩ ]
  ++
  [ ⟨0b11001111, 0b11000001, fun b => some (.noOperand (.pop (QPair.ofCode (field54 b))))⟩,
    ⟨0b11001111, 0b11000101, fun b => some (.noOperand (.push (QPair.ofCode (field54 b))))⟩,
    ⟨0b11111111, 0b11000011, fun _ => some (.operand16 .jp)⟩,
    ⟨0b11111111, 0b11001101, fun _ => some (.operand16 .call)⟩,
    ⟨0b11111111, 0b11001001, fun _ => some (.noOperand .ret)⟩,
    ⟨0b11111111, 0b11111010, fun _ => some (.operand16 .ldADirect)⟩,
    ⟨0b11111111, 0b11101010, fun _ => some (.operand16 .ldDirectA)⟩,
    ⟨0b11111111, 0b11110000, fun _ => some (.operand8 .ldhAOffset)⟩,
    ⟨0b11111111, 0b11100000, fun _ => some (.operand8 .ldhOffsetA)⟩,
    ⟨0b11111111, 0b11110010, fun _ => some (.noOperand .ldAIndexC)⟩,
    ⟨0b11111111, 0b11100010, fun _ => some (.noOperand .ldIndexCA)⟩,
    ⟨0b11111111, 0b11110011, fun _ => some (.noOperand .di)⟩ ]

/-- The escape byte of the extended table, 0xCB (30_encoding.md R112, R128). -/
def escapeByte : Byte := 0xCB#8

/-- `decode(false, b)`: the primary table; none is Undefined (30_encoding.md R122, R124, R125). -/
def decodePrimary (b : Byte) : Option Opcode :=
  match primaryRows.find? (fun row => b &&& row.mask == row.pattern) with
  | some row => row.opcode b
  | none => none

/-- `decode(true, b)`: the extended table `10bbbrrr`, rrr = 110 excluded; none is Undefined (30_encoding.md R123,
R124, R126). -/
def decodeExtended (b : Byte) : Option Form :=
  if b &&& 0b11000000#8 = 0b10000000#8 then
    match Reg.ofCode (field20 b) with
    | some r => some (.res (bitIndexOfCode (field53 b)) r)
    | none => none
  else none

/-- Why bytes are no instruction. -/
inductive DecodeError where
  /-- the opcode byte, or the escape byte and the extended byte, decode to Undefined (30_encoding.md R125, R126) -/
  | undefined (opcode : List Byte)
  /-- the bytes end inside an instruction -/
  | truncated
deriving DecidableEq, Repr

/-- An instruction from its opcode and the bytes after the opcode byte, with the bytes that follow it
(30_encoding.md R112, R116). -/
def Opcode.complete : Opcode → List Byte → Except DecodeError (Instr × List Byte)
  | .noOperand f, rest => .ok (f.toInstr, rest)
  | .operand8 f, n :: rest => .ok ((f n).toInstr, rest)
  | .operand16 f, lo :: hi :: rest => .ok ((f (wordOf hi lo)).toInstr, rest)
  | .operand8 _, [] => .error .truncated
  | .operand16 _, [] => .error .truncated
  | .operand16 _, [_] => .error .truncated

/-- The decoder: the first instruction of a list of bytes and the bytes after it (30_encoding.md R112, R124). -/
def decode : List Byte → Except DecodeError (Instr × List Byte)
  | [] => .error .truncated
  | b1 :: rest =>
    if b1 = escapeByte then
      match rest with
      | [] => .error .truncated
      | b2 :: rest' =>
        match decodeExtended b2 with
        | some f => .ok (f.toInstr, rest')
        | none => .error (.undefined [b1, b2])
    else
      match decodePrimary b1 with
      | some op => op.complete rest
      | none => .error (.undefined [b1])

/-! ## The encoder -/

/-- The byte of a displacement: its two's-complement value (30_encoding.md R117). -/
def displacementByte (e : Int) : Byte := BitVec.ofInt 8 e

/-- The encoded bytes, in memory order (30_encoding.md R111, R116, R122, R123). -/
def Form.encode : Form → List Byte
  | .ldRegReg d s => [0b01#2 ++ d.code ++ s.code]
  | .ldRegMem d => [0b01#2 ++ d.code ++ 0b110#3]
  | .ldMemReg s => [0b01#2 ++ 0b110#3 ++ s.code]
  | .ldRegImm d n => [0b00#2 ++ d.code ++ 0b110#3, n]
  | .ldPairImm dd nn => [0b00#2 ++ dd.code ++ 0b0001#4, loByte nn, hiByte nn]
  | .ldMemImm n => [0b00110110#8, n]
  | .ldADirect nn => [0b11111010#8, loByte nn, hiByte nn]
  | .ldDirectA nn => [0b11101010#8, loByte nn, hiByte nn]
  | .ldhAOffset n => [0b11110000#8, n]
  | .ldhOffsetA n => [0b11100000#8, n]
  | .ldAIndexC => [0b11110010#8]
  | .ldIndexCA => [0b11100010#8]
  | .alu op (.reg r) => [0b10#2 ++ op.code ++ r.code]
  | .alu op .mHL => [0b10#2 ++ op.code ++ 0b110#3]
  | .alu op (.imm n) => [0b11#2 ++ op.code ++ 0b110#3, n]
  | .incReg r => [0b00#2 ++ r.code ++ 0b100#3]
  | .decReg r => [0b00#2 ++ r.code ++ 0b101#3]
  | .incPair dd => [0b00#2 ++ dd.code ++ 0b0011#4]
  | .decPair dd => [0b00#2 ++ dd.code ++ 0b1011#4]
  | .jp nn => [0b11000011#8, loByte nn, hiByte nn]
  | .jrCond cc e => [0b001#3 ++ cc.code ++ 0b000#3, displacementByte e]
  | .jr e => [0b00011000#8, displacementByte e]
  | .call nn => [0b11001101#8, loByte nn, hiByte nn]
  | .ret => [0b11001001#8]
  | .push qq => [0b11#2 ++ qq.code ++ 0b0101#4]
  | .pop qq => [0b11#2 ++ qq.code ++ 0b0001#4]
  | .res b r => [escapeByte, 0b10#2 ++ bitIndexCode b ++ r.code]
  | .nop => [0b00000000#8]
  | .di => [0b11110011#8]

/-- The words of a well-formed instruction (a word of this machine's code is a byte). -/
def encode (i : Instr) : List Byte := i.form.encode

/-! ## Words as the opcode table numbers them -/

/-- Byte k of a number, the least significant first. -/
def byteAt (w k : Nat) : Byte := BitVec.ofNat 8 (w >>> (8 * k))

/-- The three bytes, in memory order, of an instruction numbered as spec/opcode_table.json numbers it. A primary row's
first byte is bits 7..0 and a later byte counts on from it. The table numbers a row of the extended table (format CB)
as one 16-bit number whose bits 15..8 are the escape byte, which comes first in memory (log entry 6). Bits from nbits
upwards are 0. -/
def tableBytes (nbits w : Nat) : List Byte :=
  let v := w % 2 ^ nbits
  if nbits = 16 ∧ byteAt v 1 = escapeByte then [byteAt v 1, byteAt v 0, 0#8]
  else [byteAt v 0, byteAt v 1, byteAt v 2]

/-- The instruction the decoder reads from a word of the opcode table. -/
def decodeTableWord (nbits w : Nat) : Option Instr :=
  match decode (tableBytes nbits w) with
  | .ok (i, _) => some i
  | .error _ => none

end Sys2Proof
end

