-- ==== Sys2Proof/Machine/Fetch.lean ====
section
/-! DEFINITION. Fetch: the fetch and decode of one instruction through the bus (30_encoding.md R112,
70_reset_and_hazards.md R255), and the placing of bytes where the next fetch reads them. -/

namespace Sys2Proof.Machine

/-- Instruction byte k: `MemRead(chk(pc_insn + k, Read), 1)` (30_encoding.md R112). -/
def fetchByte (s : State) (k : Nat) : Except FaultRecord Byte := do
  let a ← chk s (s.pc.toNat + k) .read
  readU8 s a

/-- The operand bytes of a decoded primary opcode, in increasing address order (30_encoding.md R112, R116). -/
def fetchOperands (s : State) : Opcode → Except FaultRecord Form
  | .noOperand f => .ok f
  | .operand8 f => do
    let n ← fetchByte s 1
    .ok (f n)
  | .operand16 f => do
    let lo ← fetchByte s 1
    let hi ← fetchByte s 2
    .ok (f (wordOf hi lo))

/-- The second byte of an extended-table instruction and its decoding (30_encoding.md R112, 60_exceptions.md R222). -/
def fetchExtended (s : State) : Except FaultRecord Form := do
  let b2 ← fetchByte s 1
  match decodeExtended b2 with
  | some f => .ok f
  | none => .error (.decodeFault s.pc [escapeByte, b2])

/-- The decoding of a primary byte and the fetch of its operands; an Undefined byte faults before any operand is
fetched (30_encoding.md R112, 60_exceptions.md R221). -/
def fetchPrimary (s : State) (b1 : Byte) : Except FaultRecord Form :=
  match decodePrimary b1 with
  | some op => fetchOperands s op
  | none => .error (.decodeFault s.pc [b1])

/-- The form of the instruction at the pc, or the first fault of 60_exceptions.md R227 items 2 to 5. -/
def fetchForm (s : State) : Except FaultRecord Form := do
  let b1 ← fetchByte s 0
  if b1 = escapeByte then fetchExtended s else fetchPrimary s b1

/-- The instruction at the pc, or the first fault of its fetch. -/
def fetchInstr (s : State) : Except FaultRecord Instr := do
  let f ← fetchForm s
  .ok f.toInstr

/-- A memory with a run of bytes stored from an address on, where the address space has storage. -/
def placeBytes : Memory → Nat → List Byte → Memory
  | m, _, [] => m
  | m, n, v :: vs =>
    placeBytes (if n ≤ 0xFFFF ∧ (regionAt n).kind ≠ .unmapped then m.write n v else m) (n + 1) vs

/-- The state whose next step fetches a given run of bytes: the bytes stand at the pc, the program counts as loaded
from outside (log entries 3 and 7), and nothing stops the next step. -/
def placeCode (s : State) (bytes : List Byte) : State :=
  { s with
    mem := placeBytes s.mem s.pc.toNat bytes
    romLoaded := true
    stopRequest := false
    status := .running }

end Sys2Proof.Machine
end

