-- ==== Sys2Proof/Machine/HostPort.lean ====
section
/-! DEFINITION. HostPort: what the host does to the machine and what it is handed (00_scope.md R8): the loading of the
fixed bank (20_memory.md R84, 70_reset_and_hazards.md R251 to R253), the stop request (10_state.md R51), the dump
(20_memory.md R85) and the report at a fault (60_exceptions.md R225). A load failure is no CORE fault (R238). -/

namespace Sys2Proof.Machine

/-- Why a load fails; the run then fails before the first step (20_memory.md R84, 70_reset_and_hazards.md R253). -/
inductive LoadError where
  /-- `load_fixed_bank` was not given exactly 16384 bytes (20_memory.md R84) -/
  | wrongSize
  /-- `load_fixed_bank` was called before (20_memory.md R84; DEDUCED, log entry 3) -/
  | alreadyLoaded
  /-- the cartridge image is shorter than 16384 bytes (70_reset_and_hazards.md R253) -/
  | shortImage
deriving DecidableEq, Repr

/-- The size of the fixed bank: 16384 bytes (00_scope.md R12). -/
def fixedBankSize : Nat := 16384

/-- `load_fixed_bank(bytes)`: exactly 16384 bytes into ROM0, exactly once (20_memory.md R84). -/
def loadFixedBank (bytes : List Byte) (s : State) : Except LoadError State :=
  if s.romLoaded then .error .alreadyLoaded
  else if bytes.length ≠ fixedBankSize then .error .wrongSize
  else .ok { s with mem := Memory.loadLow s.mem bytes, romLoaded := true }

/-- Steps (1) and (2) of the boot sequence: construct the CORE, with `RomWritePolicy` as an argument (00_scope.md R13),
and load the first 16384 bytes of the image (70_reset_and_hazards.md R252, R253). Step (3) is `run`. -/
def boot (policy : RomWritePolicy) (image : List Byte) : Except LoadError State :=
  if image.length < fixedBankSize then .error .shortImage
  else loadFixedBank (image.take fixedBankSize) (State.construct policy)

/-- The host raises its stop request (10_state.md R51). -/
def requestStop (s : State) : State := { s with stopRequest := true }

/-- The state the next step starts from, the host having raised its stop request or not (10_state.md R51,
60_exceptions.md R232). -/
def beforeStep (raise : Bool) (s : State) : State := if raise then requestStop s else s

/-- The bytes of one region in increasing address order. -/
def dumpRegion (s : State) (r : Region) : List Byte := (List.range r.size).map fun k => s.mem.read (r.first + k)

/-- `dump()`: the contents of every backed region in address order (20_memory.md R85). -/
def dump (s : State) : List Byte := backedRegions.flatMap (dumpRegion s)

/-- The field `kind` of a record: 1 for a decode fault, 2 for a memory fault (60_exceptions.md R225). -/
def FaultRecord.kind : FaultRecord → Nat
  | .decodeFault _ _ => 1
  | .memoryFault _ _ _ => 2

/-- The field `pc` of a record: pc_insn (60_exceptions.md R225). -/
def FaultRecord.pc : FaultRecord → Word
  | .decodeFault pc _ => pc
  | .memoryFault pc _ _ => pc

/-- The field `access` of a memory fault's record: 0 for Read, 1 for Write (60_exceptions.md R225). -/
def Access.code : Access → Nat
  | .read => 0
  | .write => 1

/-- What the host is handed at a fault: the record, the register file and the dump (60_exceptions.md R225). -/
structure FaultReport where
  record : FaultRecord
  regs : RegFile
  sp : Word
  pc : Word
  memory : List Byte
deriving DecidableEq, Repr

/-- The report of a faulted machine; none while it runs and after a stop, which carries no record (60_exceptions.md
R225, R232). -/
def faultReport (s : State) : Option FaultReport :=
  match s.status with
  | .faulted record => some { record := record, regs := s.regs, sp := s.sp, pc := s.pc, memory := dump s }
  | .running => none
  | .stopped => none

end Sys2Proof.Machine
end

