-- ==== Sys2Proof/Machine/Interp.lean ====
section
/-! DEFINITION. Interp: one step of the interpreter (70_reset_and_hazards.md R255) and the step with the host's free
choice of raising its stop request before it (60_exceptions.md R232; log entry 5). -/

namespace Sys2Proof.Machine

/-- The step of a running machine whose bank is loaded: the stop request is sampled first, then an instruction is
fetched and executed, and a raise leaves the state before it with status Faulted (70_reset_and_hazards.md R255,
60_exceptions.md R226, R227, R232). -/
def runningStep (s : State) : Host.Outcome State Fault Refusal :=
  if s.stopRequest = true then .next (s.setStatus .stopped)
  else
    match fetchInstr s with
    | .error record => .next (takeFault s record)
    | .ok i => exec i s

/-- `Step(s)`: none from a terminal status (70_reset_and_hazards.md R255), none before the bank is loaded (R252). -/
def interpStep (s : State) : Host.Outcome State Fault Refusal :=
  match s.status with
  | .faulted record => .fault (.noStepFaulted record)
  | .stopped => .fault .noStepStopped
  | .running => if s.romLoaded = true then runningStep s else .refused .romNotLoaded

/-- A step before which the host may raise its stop request (60_exceptions.md R232). -/
def hostStep (raise : Bool) (s : State) : Host.Outcome State Fault Refusal :=
  interpStep (beforeStep raise s)

end Sys2Proof.Machine
end

