-- ==== Sys2Proof/Machine/Step.lean ====
section
/-! DEFINITION. Step: the machine's step, and the placing of an opcode-table word where the next step fetches. -/

namespace Sys2Proof.Machine

/-- One step (70_reset_and_hazards.md R255). -/
def step (s : State) : Host.Outcome State Fault Refusal := interpStep s

/-- The state whose next step fetches and runs the instruction that a word of the opcode table numbers (log entries 6
and 7): its three bytes stand at the pc, the bank counts as loaded, and the machine runs with no stop requested. -/
def State.withFetchWord (s : State) (nbits w : Nat) : State := placeCode s (tableBytes nbits w)

end Sys2Proof.Machine
end

