-- ==== Sys2Proof/Machine/Trace.lean ====
section
/-! DEFINITION. Trace: the optional trace record of an executed instruction, (mnemonic, operands, resulting PC)
(60_exceptions.md R236). It is output only; its text format is open (92_eei_decisions.md D28), so the operands are
data. The mnemonics are those of 30_encoding.md R131. -/

namespace Sys2Proof

/-- An operand as an instruction names it (30_encoding.md R131). -/
inductive Operand where
  | reg (r : Reg)
  | pair (dd : DPair)
  | stackPair (qq : QPair)
  | mHL
  | imm8 (n : Byte)
  | imm16 (nn : Word)
  | direct (nn : Word)
  | offset (n : Byte)
  | indexC
  | cond (cc : Cond)
  | displacement (e : Int)
  | bit (b : Fin 8)
deriving DecidableEq, Repr

/-- The mnemonic of an accumulator operation (30_encoding.md R131). -/
def aluMnemonic : AluOp → String
  | .add => "ADD"
  | .sub => "SUB"
  | .and => "AND"
  | .xor => "XOR"
  | .or => "OR"
  | .cp => "CP"

/-- The mnemonic of an instruction (30_encoding.md R131). -/
def Form.mnemonic : Form → String
  | .ldRegReg _ _ => "LD"
  | .ldRegMem _ => "LD"
  | .ldMemReg _ => "LD"
  | .ldRegImm _ _ => "LD"
  | .ldPairImm _ _ => "LD"
  | .ldMemImm _ => "LD"
  | .ldADirect _ => "LD"
  | .ldDirectA _ => "LD"
  | .ldhAOffset _ => "LDH"
  | .ldhOffsetA _ => "LDH"
  | .ldAIndexC => "LD"
  | .ldIndexCA => "LD"
  | .alu op _ => aluMnemonic op
  | .incReg _ => "INC"
  | .decReg _ => "DEC"
  | .incPair _ => "INC"
  | .decPair _ => "DEC"
  | .jp _ => "JP"
  | .jrCond _ _ => "JR"
  | .jr _ => "JR"
  | .call _ => "CALL"
  | .ret => "RET"
  | .push _ => "PUSH"
  | .pop _ => "POP"
  | .res _ _ => "RES"
  | .nop => "NOP"
  | .di => "DI"

/-- The source operand of an accumulator instruction. -/
def sourceOperand : Src → Operand
  | .reg r => .reg r
  | .mHL => .mHL
  | .imm n => .imm8 n

/-- The operands of an instruction, destination first; A is explicit for ADD and left out for SUB, AND, XOR, OR and CP
(30_encoding.md R131). -/
def Form.operands : Form → List Operand
  | .ldRegReg d s => [.reg d, .reg s]
  | .ldRegMem d => [.reg d, .mHL]
  | .ldMemReg s => [.mHL, .reg s]
  | .ldRegImm d n => [.reg d, .imm8 n]
  | .ldPairImm dd nn => [.pair dd, .imm16 nn]
  | .ldMemImm n => [.mHL, .imm8 n]
  | .ldADirect nn => [.reg .A, .direct nn]
  | .ldDirectA nn => [.direct nn, .reg .A]
  | .ldhAOffset n => [.reg .A, .offset n]
  | .ldhOffsetA n => [.offset n, .reg .A]
  | .ldAIndexC => [.reg .A, .indexC]
  | .ldIndexCA => [.indexC, .reg .A]
  | .alu .add s => [.reg .A, sourceOperand s]
  | .alu .sub s => [sourceOperand s]
  | .alu .and s => [sourceOperand s]
  | .alu .xor s => [sourceOperand s]
  | .alu .or s => [sourceOperand s]
  | .alu .cp s => [sourceOperand s]
  | .incReg r => [.reg r]
  | .decReg r => [.reg r]
  | .incPair dd => [.pair dd]
  | .decPair dd => [.pair dd]
  | .jp nn => [.imm16 nn]
  | .jrCond cc e => [.cond cc, .displacement e]
  | .jr e => [.displacement e]
  | .call nn => [.imm16 nn]
  | .ret => []
  | .push qq => [.stackPair qq]
  | .pop qq => [.stackPair qq]
  | .res b r => [.bit b, .reg r]
  | .nop => []
  | .di => []

namespace Machine

/-- The trace record of one executed instruction (60_exceptions.md R236). -/
structure TraceRecord where
  mnemonic : String
  operands : List Operand
  resultingPc : Word
deriving DecidableEq, Repr

/-- The record of executing an instruction in a state; none when it faults, since it is then not executed (R226). -/
def traceExec (i : Instr) (s : State) : Option TraceRecord :=
  match exec i s with
  | .next t =>
    match t.status with
    | .faulted _ => none
    | .running => some { mnemonic := i.form.mnemonic, operands := i.form.operands, resultingPc := t.pc }
    | .stopped => none
  | .fault _ => none
  | .refused _ => none

/-- The record the instruction at the pc of a running machine emits (60_exceptions.md R236). -/
def traceStep (s : State) : Option TraceRecord :=
  if s.status = .running ∧ s.romLoaded = true ∧ s.stopRequest = false then
    match fetchInstr s with
    | .ok i => traceExec i s
    | .error _ => none
  else none

end Machine

end Sys2Proof
end

