-- ==== Sys2Proof/Machine/Run.lean ====
section
/-! DEFINITION. Run: the start command `run`, the sole entry point of the core (00_scope.md R8): boot, then steps until a
terminal status (70_reset_and_hazards.md R252). What the host chooses is data: one Bool for each step, whether it raises
its stop request before it (60_exceptions.md R232). A program may run for ever (R233), so a run is given by the finite
lists of these choices: after each of them the state is the one the host observes between two instructions. -/

namespace Sys2Proof.Machine

/-- The steps of a run, one for each choice of the host, until no step is enabled; a terminal state stays
(70_reset_and_hazards.md R252, 60_exceptions.md R230, R233). -/
def runLoop : List Bool → State → State
  | [], s => s
  | raise :: later, s =>
    match hostStep raise s with
    | .next t => runLoop later t
    | .fault _ => s
    | .refused _ => s

/-- The trace records the same steps emit, in order (60_exceptions.md R236). -/
def runTrace : List Bool → State → List TraceRecord
  | [], _ => []
  | raise :: later, s =>
    match hostStep raise s with
    | .next t => (traceStep (beforeStep raise s)).toList ++ runTrace later t
    | .fault _ => []
    | .refused _ => []

/-- Whether a run has ended: only in Faulted or Stopped (60_exceptions.md R233). -/
def Status.ended : Status → Bool
  | .running => false
  | .stopped => true
  | .faulted _ => true

/-- What the core gives the host: its state, the trace records, and at a fault the report; `returned` says whether `run`
has come back, since it "blocks until fault or external stop" (00_scope.md R8). -/
structure RunOutput where
  state : State
  trace : List TraceRecord
  report : Option FaultReport
  returned : Bool
deriving DecidableEq, Repr

/-- What the host is given after some steps from a booted state (00_scope.md R8). -/
def observe (host : List Bool) (s : State) : RunOutput :=
  { state := runLoop host s
    trace := runTrace host s
    report := faultReport (runLoop host s)
    returned := (runLoop host s).status.ended }

/-- `run(image)` with `RomWritePolicy` as an argument: it fails before the first step where the load fails, and else
steps as the host's choices say (00_scope.md R8, R13; 70_reset_and_hazards.md R252, R253). -/
def run (policy : RomWritePolicy) (image : List Byte) (host : List Bool) : Except LoadError RunOutput := do
  let s ← boot policy image
  .ok (observe host s)

end Sys2Proof.Machine
end

