-- ==== Sys2Proof/Safety.lean ====
section
/-! DEFINITION. Safety: the terms in which claims speak of a safe run. The invariant of every state a run reaches, and,
for each instruction, what it may write: the spec's own summaries (10_state.md R46, 20_memory.md R88, 40_load.md R152).
-/

namespace Sys2Proof.Machine

/-! ## The invariant -/

/-- Memory lists only addresses with storage, and none of ROM1, whose bytes are 0x00 (20_memory.md R71, R74). -/
abbrev Memory.mapped (m : Memory) : Prop :=
  ∀ cell ∈ m, cell.1 ≤ 0xFFFF ∧ (regionAt cell.1).kind ≠ .unmapped ∧ regionAt cell.1 ≠ .rom1

/-- The low nibble of F is zero (10_state.md R42, R45). -/
abbrev RegFile.lowNibbleZero (r : RegFile) : Prop := r.f &&& 0x0F#8 = 0x00#8

/-- The record of a faulted state is about the instruction at its pc, which has not moved (60_exceptions.md R225,
R226), and names one or two opcode bytes (R225). -/
def Status.consistent : Status → Word → Bool
  | .running, _ => true
  | .stopped, _ => true
  | .faulted (.decodeFault pc bytes), pcNow => decide (pc = pcNow) && (bytes.length == 1 || bytes.length == 2)
  | .faulted (.memoryFault pc _ _), pcNow => decide (pc = pcNow)

/-- What holds in every state a run reaches. -/
abbrev State.Inv (s : State) : Prop :=
  s.mem.wf ∧ s.mem.mapped ∧ s.regs.lowNibbleZero ∧ s.status.consistent s.pc = true

/-! ## When accesses succeed -/

/-- A read of the address gives a byte (20_memory.md R71, R80). -/
abbrev readable (a : Word) : Prop := (regionOf a).kind ≠ .unmapped

/-- A write of the address stores the byte (20_memory.md R71, R82). -/
abbrev storable (a : Word) : Prop := (regionOf a).kind = .storage

/-- A write of the address raises nothing: it has storage, or it is ROM whose writes are ignored (20_memory.md R76,
R82). -/
abbrev acceptsWrite (s : State) (a : Word) : Prop :=
  storable a ∨ ((regionOf a).kind = .rom ∧ s.config.romWritePolicy = .ignore)

/-- Memory after a write that raises nothing: the byte is stored where there is storage, and ROM stays as it is
(20_memory.md R76, R82). -/
def memoryAfter (m : Memory) (a : Word) (v : Byte) : Memory := if storable a then m.write a.toNat v else m

/-- The value of a source operand that can be read (41_alu.md R166). -/
def sourceValue (s : State) : Src → Byte
  | .reg r => s.readReg r
  | .mHL => s.mem.read (hlAddress s).toNat
  | .imm n => n

/-- The source operand can be read (41_alu.md R166). -/
abbrev sourceReadable (s : State) (src : Src) : Prop := src = .mHL → readable (hlAddress s)

/-- Bytes stand from an address on, every one readable and inside the address space. -/
def codeAt (s : State) : Nat → List Byte → Prop
  | _, [] => True
  | n, v :: vs => n ≤ 0xFFFF ∧ (regionAt n).kind ≠ .unmapped ∧ s.mem.read n = v ∧ codeAt s (n + 1) vs

end Sys2Proof.Machine

/-! ## What an instruction may write -/

namespace Sys2Proof

open Sys2Proof.Machine

/-- The members of a pair `dd` among the 8-bit registers (10_state.md R43). -/
def pairMember : DPair → Reg → Bool
  | .BC, r => decide (r = .B) || decide (r = .C)
  | .DE, r => decide (r = .D) || decide (r = .E)
  | .HL, r => decide (r = .H) || decide (r = .L)
  | .SP, _ => false

/-- The members of a pair `qq` among the 8-bit registers but F (10_state.md R43). -/
def stackPairMember : QPair → Reg → Bool
  | .BC, r => decide (r = .B) || decide (r = .C)
  | .DE, r => decide (r = .D) || decide (r = .E)
  | .HL, r => decide (r = .H) || decide (r = .L)
  | .AF, r => decide (r = .A)

/-- Whether a register other than F is a destination of an instruction (the rules' pseudocode). -/
def Form.writesReg : Form → Reg → Bool
  | .ldRegReg d _, r => decide (r = d)
  | .ldRegMem d, r => decide (r = d)
  | .ldMemReg _, _ => false
  | .ldRegImm d _, r => decide (r = d)
  | .ldPairImm dd _, r => pairMember dd r
  | .ldMemImm _, _ => false
  | .ldADirect _, r => decide (r = .A)
  | .ldDirectA _, _ => false
  | .ldhAOffset _, r => decide (r = .A)
  | .ldhOffsetA _, _ => false
  | .ldAIndexC, r => decide (r = .A)
  | .ldIndexCA, _ => false
  | .alu .cp _, _ => false
  | .alu .add _, r => decide (r = .A)
  | .alu .sub _, r => decide (r = .A)
  | .alu .and _, r => decide (r = .A)
  | .alu .xor _, r => decide (r = .A)
  | .alu .or _, r => decide (r = .A)
  | .incReg d, r => decide (r = d)
  | .decReg d, r => decide (r = d)
  | .incPair dd, r => pairMember dd r
  | .decPair dd, r => pairMember dd r
  | .jp _, _ => false
  | .jrCond _ _, _ => false
  | .jr _, _ => false
  | .call _, _ => false
  | .ret, _ => false
  | .push _, _ => false
  | .pop qq, r => stackPairMember qq r
  | .res _ d, r => decide (r = d)
  | .nop, _ => false
  | .di, _ => false

/-- Whether SP is written (10_state.md R48). -/
def Form.writesSp : Form → Bool
  | .ldPairImm dd _ => decide (dd = .SP)
  | .incPair dd => decide (dd = .SP)
  | .decPair dd => decide (dd = .SP)
  | .call _ => true
  | .ret => true
  | .push _ => true
  | .pop _ => true
  | .ldRegReg _ _ => false
  | .ldRegMem _ => false
  | .ldMemReg _ => false
  | .ldRegImm _ _ => false
  | .ldMemImm _ => false
  | .ldADirect _ => false
  | .ldDirectA _ => false
  | .ldhAOffset _ => false
  | .ldhOffsetA _ => false
  | .ldAIndexC => false
  | .ldIndexCA => false
  | .alu _ _ => false
  | .incReg _ => false
  | .decReg _ => false
  | .jp _ => false
  | .jrCond _ _ => false
  | .jr _ => false
  | .res _ _ => false
  | .nop => false
  | .di => false

/-- Whether an instruction writes Z, N and H (10_state.md R46). -/
def Form.writesZNH : Form → Bool
  | .alu _ _ => true
  | .incReg _ => true
  | .decReg _ => true
  | .pop qq => decide (qq = .AF)
  | .ldRegReg _ _ => false
  | .ldRegMem _ => false
  | .ldMemReg _ => false
  | .ldRegImm _ _ => false
  | .ldPairImm _ _ => false
  | .ldMemImm _ => false
  | .ldADirect _ => false
  | .ldDirectA _ => false
  | .ldhAOffset _ => false
  | .ldhOffsetA _ => false
  | .ldAIndexC => false
  | .ldIndexCA => false
  | .incPair _ => false
  | .decPair _ => false
  | .jp _ => false
  | .jrCond _ _ => false
  | .jr _ => false
  | .call _ => false
  | .ret => false
  | .push _ => false
  | .res _ _ => false
  | .nop => false
  | .di => false

/-- Whether an instruction writes C: as Z, N and H, but not INC r and DEC r (10_state.md R46). -/
def Form.writesC (f : Form) : Bool :=
  match f with
  | .incReg _ => false
  | .decReg _ => false
  | f => f.writesZNH

/-- The bytes an instruction stores, each with its address, computed from the state before as its meaning computes them
(20_memory.md R88; 40_load.md R142, R145, R147, R149, R151; 42_control.md R193; 43_stack.md R200). -/
def Form.stores (s : State) : Form → List (Word × Byte)
  | .ldMemReg r => [(hlAddress s, s.readReg r)]
  | .ldMemImm n => [(hlAddress s, n)]
  | .ldDirectA nn => [(nn, s.readReg .A)]
  | .ldhOffsetA n => [(zeroPage n, s.readReg .A)]
  | .ldIndexCA => [(indexCAddress s, s.readReg .A)]
  | .call _ => [(u16 (pushAddress s), loByte (s.pc + 3)), (u16 (pushAddress s + 1), hiByte (s.pc + 3))]
  | .push qq =>
    [(u16 (pushAddress s), loByte (s.readStackPair qq)), (u16 (pushAddress s + 1), hiByte (s.readStackPair qq))]
  | .ldRegReg _ _ => []
  | .ldRegMem _ => []
  | .ldRegImm _ _ => []
  | .ldPairImm _ _ => []
  | .ldADirect _ => []
  | .ldhAOffset _ => []
  | .ldAIndexC => []
  | .alu _ _ => []
  | .incReg _ => []
  | .decReg _ => []
  | .incPair _ => []
  | .decPair _ => []
  | .jp _ => []
  | .jrCond _ _ => []
  | .jr _ => []
  | .ret => []
  | .pop _ => []
  | .res _ _ => []
  | .nop => []
  | .di => []

/-- The addresses an instruction stores to (20_memory.md R88). -/
def Form.storesTo (s : State) (f : Form) : List Word := (f.stores s).map Prod.fst

/-- What an instruction leaves as it was when exec answers a next state (10_state.md R46; 20_memory.md R88). The status
may only become Faulted, and the program counter may change. -/
structure Form.Frame (f : Form) (s t : State) : Prop where
  regs : ∀ r, f.writesReg r = false → t.readReg r = s.readReg r
  sp : f.writesSp = false → t.sp = s.sp
  flags : f.writesZNH = false → t.regs.flagZ = s.regs.flagZ ∧ t.regs.flagN = s.regs.flagN ∧ t.regs.flagH = s.regs.flagH
  carry : f.writesC = false → t.regs.flagC = s.regs.flagC
  lowNibble : f ≠ .pop .AF → t.regs.f &&& 0x0F#8 = s.regs.f &&& 0x0F#8
  status : t.status = s.status ∨ ∃ record, t.status = .faulted record
  host : t.stopRequest = s.stopRequest ∧ t.romLoaded = s.romLoaded ∧ t.config = s.config
  memory : ∀ n, (∀ a ∈ f.storesTo s, a.toNat ≠ n) → t.mem.read n = s.mem.read n

/-- Whether an instruction transfers control, so that its next pc need not be pc_insn + length (42_control.md). -/
def Form.transfers : Form → Bool
  | .jp _ => true
  | .jrCond _ _ => true
  | .jr _ => true
  | .call _ => true
  | .ret => true
  | .ldRegReg _ _ => false
  | .ldRegMem _ => false
  | .ldMemReg _ => false
  | .ldRegImm _ _ => false
  | .ldPairImm _ _ => false
  | .ldMemImm _ => false
  | .ldADirect _ => false
  | .ldDirectA _ => false
  | .ldhAOffset _ => false
  | .ldhOffsetA _ => false
  | .ldAIndexC => false
  | .ldIndexCA => false
  | .alu _ _ => false
  | .incReg _ => false
  | .decReg _ => false
  | .incPair _ => false
  | .decPair _ => false
  | .push _ => false
  | .pop _ => false
  | .res _ _ => false
  | .nop => false
  | .di => false

/-- The addresses an instruction reads beside its own bytes (20_memory.md R88). -/
def Form.readsFrom (s : State) : Form → List Word
  | .ldRegMem _ => [hlAddress s]
  | .ldADirect nn => [nn]
  | .ldhAOffset n => [zeroPage n]
  | .ldAIndexC => [indexCAddress s]
  | .alu _ .mHL => [hlAddress s]
  | .ret => [s.sp, s.sp + 1]
  | .pop _ => [s.sp, s.sp + 1]
  | .ldRegReg _ _ => []
  | .ldMemReg _ => []
  | .ldRegImm _ _ => []
  | .ldPairImm _ _ => []
  | .ldMemImm _ => []
  | .ldDirectA _ => []
  | .ldhOffsetA _ => []
  | .ldIndexCA => []
  | .alu _ (.reg _) => []
  | .alu _ (.imm _) => []
  | .incReg _ => []
  | .decReg _ => []
  | .incPair _ => []
  | .decPair _ => []
  | .jp _ => []
  | .jrCond _ _ => []
  | .jr _ => []
  | .call _ => []
  | .push _ => []
  | .res _ _ => []
  | .nop => []
  | .di => []

/-- The SP a push or pop forms through `chk`, as an unbounded integer; SP itself where there is none (43_stack.md
R202). -/
def Form.stackPointerAfter (s : State) : Form → Int
  | .call _ => pushAddress s
  | .push _ => pushAddress s
  | .ret => s.sp.toNat + 2
  | .pop _ => s.sp.toNat + 2
  | .ldRegReg _ _ => s.sp.toNat
  | .ldRegMem _ => s.sp.toNat
  | .ldMemReg _ => s.sp.toNat
  | .ldRegImm _ _ => s.sp.toNat
  | .ldPairImm _ _ => s.sp.toNat
  | .ldMemImm _ => s.sp.toNat
  | .ldADirect _ => s.sp.toNat
  | .ldDirectA _ => s.sp.toNat
  | .ldhAOffset _ => s.sp.toNat
  | .ldhOffsetA _ => s.sp.toNat
  | .ldAIndexC => s.sp.toNat
  | .ldIndexCA => s.sp.toNat
  | .alu _ _ => s.sp.toNat
  | .incReg _ => s.sp.toNat
  | .decReg _ => s.sp.toNat
  | .incPair _ => s.sp.toNat
  | .decPair _ => s.sp.toNat
  | .jp _ => s.sp.toNat
  | .jrCond _ _ => s.sp.toNat
  | .jr _ => s.sp.toNat
  | .res _ _ => s.sp.toNat
  | .nop => s.sp.toNat
  | .di => s.sp.toNat

/-- No access an instruction makes beside its own bytes raises a fault (20_memory.md R80, R82, 43_stack.md R202). -/
structure Form.AccessesSucceed (f : Form) (s : State) : Prop where
  reads : ∀ a ∈ f.readsFrom s, readable a
  writes : ∀ a ∈ f.storesTo s, acceptsWrite s a
  stack : 0 ≤ f.stackPointerAfter s ∧ f.stackPointerAfter s ≤ 0xFFFF

/-- Whether an instruction is a load (40_load.md R152). -/
def Form.isLoad : Form → Bool
  | .ldRegReg _ _ => true
  | .ldRegMem _ => true
  | .ldMemReg _ => true
  | .ldRegImm _ _ => true
  | .ldPairImm _ _ => true
  | .ldMemImm _ => true
  | .ldADirect _ => true
  | .ldDirectA _ => true
  | .ldhAOffset _ => true
  | .ldhOffsetA _ => true
  | .ldAIndexC => true
  | .ldIndexCA => true
  | .alu _ _ => false
  | .incReg _ => false
  | .decReg _ => false
  | .incPair _ => false
  | .decPair _ => false
  | .jp _ => false
  | .jrCond _ _ => false
  | .jr _ => false
  | .call _ => false
  | .ret => false
  | .push _ => false
  | .pop _ => false
  | .res _ _ => false
  | .nop => false
  | .di => false

/-- The primary bytes that decode to Undefined, group by group (30_encoding.md R125). -/
def undefinedPrimary : List Byte :=
  [0x02#8, 0x12#8, 0x0A#8, 0x1A#8, 0x22#8, 0x2A#8, 0x32#8, 0x3A#8, 0x08#8, 0xF8#8, 0xF9#8]
  ++ [0x09#8, 0x19#8, 0x29#8, 0x39#8, 0xE8#8]
  ++ [0x07#8, 0x0F#8, 0x17#8, 0x1F#8, 0x27#8, 0x2F#8, 0x37#8, 0x3F#8]
  ++ [0x10#8, 0x76#8, 0xFB#8]
  ++ [0x34#8, 0x35#8]
  ++ [0x88#8, 0x89#8, 0x8A#8, 0x8B#8, 0x8C#8, 0x8D#8, 0x8E#8, 0x8F#8, 0xCE#8]
  ++ [0x98#8, 0x99#8, 0x9A#8, 0x9B#8, 0x9C#8, 0x9D#8, 0x9E#8, 0x9F#8, 0xDE#8]
  ++ [0xC0#8, 0xC8#8, 0xD0#8, 0xD8#8, 0xD9#8, 0xC2#8, 0xCA#8, 0xD2#8, 0xDA#8, 0xE9#8, 0xC4#8, 0xCC#8, 0xD4#8, 0xDC#8]
  ++ [0xC7#8, 0xCF#8, 0xD7#8, 0xDF#8, 0xE7#8, 0xEF#8, 0xF7#8, 0xFF#8]
  ++ [0xD3#8, 0xDB#8, 0xDD#8, 0xE3#8, 0xE4#8, 0xEB#8, 0xEC#8, 0xED#8, 0xF4#8, 0xFC#8, 0xFD#8]

/-- Whether a second byte of the extended table decodes to Undefined (30_encoding.md R126). -/
def undefinedExtended (b : Byte) : Bool :=
  decide (b.toNat ≤ 0x7F) || decide (0xC0 ≤ b.toNat) ||
    decide (b ∈ [0x86#8, 0x8E#8, 0x96#8, 0x9E#8, 0xA6#8, 0xAE#8, 0xB6#8, 0xBE#8])

end Sys2Proof
end

