-- ==== Sys2Proof/Certificates/Slice0/Obligations.lean ====
section
/-! DEFINITION. Obligations: what is claimed of the machine, from the numbered rules of spec/. A row of the opcode table
is named by its form: `Form.toInstr` gives the one constructor of Instr with those operands, so a statement for every
`d r` over `Form.ldRegReg d r` covers the 49 constructors ld_B_B … ld_A_A. Statements that rest on a decision of the
spec (92_eei_decisions.md D<n>) or on the model's own choice say so and are marked 'derived' in OBLIGATIONS.json. -/

open Sys2Proof
open Sys2Proof.Machine

/-! ## Encoding -/

/-- 30_encoding.md R122, R123: decoding the encoding of any well-formed instruction, whatever bytes follow it, gives the
instruction and those bytes. The opcode values are the spec's decision D2. -/
def Obligations.DecodeOfEncodeGivesTheInstruction : Prop :=
  ∀ (i : Instr) (rest : List Byte), i.wellFormed = true → decode (encode i ++ rest) = .ok (i, rest)

/-- 30_encoding.md R122, R124: bytes that decode are the encoding of the well-formed instruction they decode to, so
every admitted byte sequence has one meaning and no bit of it is dropped (D2). -/
def Obligations.DecodedBytesAreTheEncoding : Prop :=
  ∀ (bytes : List Byte) (i : Instr) (rest : List Byte),
    decode bytes = .ok (i, rest) → i.wellFormed = true ∧ bytes = encode i ++ rest

/-- 30_encoding.md R125, R126, R127: the Undefined primary bytes are the 80 listed ones and the Undefined extended bytes
the listed groups of 200; decoding one reports the opcode bytes. The exclusions are decisions D1, D3 to D7, D24. -/
def Obligations.UndefinedOpcodesAreExactlyTheListed : Prop :=
  undefinedPrimary.length = 80 ∧
  (∀ b : Byte, b ≠ escapeByte → ((decodePrimary b).isNone = true ↔ b ∈ undefinedPrimary)) ∧
  (∀ b : Byte, (decodeExtended b).isNone = true ↔ undefinedExtended b = true) ∧
  (∀ (b : Byte) (rest : List Byte), b ∈ undefinedPrimary → decode (b :: rest) = .error (.undefined [b])) ∧
  (∀ (b : Byte) (rest : List Byte), undefinedExtended b = true →
    decode (escapeByte :: b :: rest) = .error (.undefined [escapeByte, b]))

/-- Words written out from the rules' encodings decode to the instructions they stand for (R140 LD B,C `01 000 001`;
R143 `3E 0F`; R146 `FA 23 C1`; R160 `C6 01`; R172 INC B `00 000 100`; R191 `20 FC`; R192 `18 80`; R193 `CD 00 02`;
R200 PUSH BC `11 00 0101`; R210 `CB 87`; R216 `F3`; D2). -/
def Obligations.WrittenOutWordsDecode : Prop :=
  decode [0b01000001#8] = .ok (.ld_B_C, []) ∧
  decode [0x3E#8, 0x0F#8] = .ok (.ld_A_n 0x0F#8, []) ∧
  decode [0xFA#8, 0x23#8, 0xC1#8] = .ok (.ld_A_mnn 0xC123#16, []) ∧
  decode [0xC6#8, 0x01#8] = .ok (.add_A_n 0x01#8, []) ∧
  decode [0b00000100#8] = .ok (.inc_B, []) ∧
  decode [0x20#8, 0xFC#8] = .ok (.jr_NZ_e (-4), []) ∧
  decode [0x18#8, 0x80#8] = .ok (.jr_e (-128), []) ∧
  decode [0xCD#8, 0x00#8, 0x02#8] = .ok (.call_nn 0x0200#16, []) ∧
  decode [0b11000101#8] = .ok (.push_BC, []) ∧
  decode [0xCB#8, 0x87#8] = .ok (.res_0_A, []) ∧
  decode [0xF3#8] = .ok (.di, [])

/-! ## The step -/

/-- 70_reset_and_hazards.md R255: in a running machine whose bank is loaded and with no stop requested, when the bytes
at the pc decode to an instruction, the step is exec of it, which moves the pc itself. -/
def Obligations.StepRunsTheDecodedInstruction : Prop :=
  ∀ (s : State) (bytes : List Byte) (i : Instr), s.status = .running → s.romLoaded = true → s.stopRequest = false →
    codeAt s s.pc.toNat bytes → decode bytes = .ok (i, []) → step s = exec i s

/-- 60_exceptions.md R221, R222: when the byte at the pc, or the escape byte and the byte after it, decode to Undefined,
the step raises a decode fault with the opcode bytes and the pc of the (first) opcode byte; no operand byte is fetched,
so nothing is assumed of the bytes after the opcode. -/
def Obligations.UndefinedOpcodeRaisesDecodeFault : Prop :=
  (∀ (s : State) (b : Byte), codeAt s s.pc.toNat [b] → b ≠ escapeByte → (decodePrimary b).isNone = true →
    fetchInstr s = .error (.decodeFault s.pc [b]) ∧
    (s.status = .running → s.romLoaded = true → s.stopRequest = false →
      ∃ t, step s = .next t ∧ t.status = .faulted (.decodeFault s.pc [b]))) ∧
  (∀ (s : State) (b : Byte), codeAt s s.pc.toNat [escapeByte, b] → (decodeExtended b).isNone = true →
    fetchInstr s = .error (.decodeFault s.pc [escapeByte, b]) ∧
    (s.status = .running → s.romLoaded = true → s.stopRequest = false →
      ∃ t, step s = .next t ∧ t.status = .faulted (.decodeFault s.pc [escapeByte, b])))

/-- 60_exceptions.md R227 items 2, 4, 5 and 30_encoding.md R112: the first instruction byte that cannot be read, the
bytes before it being readable, gives a memory fault of kind Read at its address mod 65536, and the step takes it
(decisions D17, D18, D19). The three clauses: byte 1; the byte after the escape byte; an operand byte. -/
def Obligations.FetchFaultsAtTheFirstUnreadableByte : Prop :=
  ∀ s : State, s.status = .running → s.romLoaded = true → s.stopRequest = false →
    (¬readable s.pc → step s = .next (takeFault s (.memoryFault s.pc s.pc .read))) ∧
    (codeAt s s.pc.toNat [escapeByte] → ¬(s.pc.toNat + 1 ≤ 0xFFFF ∧ readable (s.pc + 1)) →
      step s = .next (takeFault s (.memoryFault s.pc (s.pc + 1) .read))) ∧
    (∀ (b : Byte) (op : Opcode) (before : List Byte), b ≠ escapeByte → decodePrimary b = some op →
      codeAt s s.pc.toNat (b :: before) → before.length + 1 < op.length →
      ¬(s.pc.toNat + before.length + 1 ≤ 0xFFFF ∧ readable (s.pc + BitVec.ofNat 16 (before.length + 1))) →
      step s = .next (takeFault s (.memoryFault s.pc (s.pc + BitVec.ofNat 16 (before.length + 1)) .read)))

/-- 60_exceptions.md R232: a running machine with the stop requested goes to Stopped and changes nothing else, and the
host may raise the request before any step. 00_scope.md R8: wherever it raises it in a run that has not ended, `run`
returns, with the state it had reached, the records of the instructions before, and no report. -/
def Obligations.StopRequestStopsBeforeTheInstruction : Prop :=
  ∀ s : State, s.status = .running → s.romLoaded = true →
    (s.stopRequest = true → step s = .next { s with status := .stopped }) ∧
    hostStep true s = .next { s with stopRequest := true, status := .stopped } ∧
    hostStep false s = step s ∧
    ∀ (policy : RomWritePolicy) (image : List Byte) (host : List Bool) (r : RunOutput),
      run policy image host = .ok r → r.state = s →
      run policy image (host ++ [true]) =
        .ok { state := { s with stopRequest := true, status := .stopped }, trace := r.trace, report := none,
              returned := true }

/-- 60_exceptions.md R230: Faulted and Stopped are terminal, no step is enabled from them. -/
def Obligations.TerminalStatesHaveNoStep : Prop :=
  (∀ (s : State) (record : FaultRecord), s.status = .faulted record → step s = .fault (.noStepFaulted record)) ∧
  (∀ s : State, s.status = .stopped → step s = .fault .noStepStopped)

/-- 70_reset_and_hazards.md R260: a step is always enabled while the status is Running, once the bank is loaded; before
that no step happens (R252; the flag that says so and the refusal are the model's, log entry 3). So a run goes on, step
by step, while its status is Running, and `run` has not returned; it ends only in Faulted or Stopped, and then it has
returned and nothing more happens, whatever the host does (60_exceptions.md R233, 00_scope.md R8), under either value of
RomWritePolicy. -/
def Obligations.RunningMachineAlwaysSteps : Prop :=
  (∀ s : State, s.status = .running →
    (s.romLoaded = true → ∃ t, step s = .next t) ∧ (s.romLoaded = false → step s = .refused .romNotLoaded)) ∧
  (∀ (policy : RomWritePolicy) (image : List Byte) (host : List Bool) (r : RunOutput),
    run policy image host = .ok r →
    (r.state.status = .running → r.returned = false ∧ ∀ raise : Bool, ∃ (t : State) (r' : RunOutput),
      hostStep raise r.state = .next t ∧ run policy image (host ++ [raise]) = .ok r' ∧ r'.state = t) ∧
    (r.state.status ≠ .running → r.returned = true ∧ ∀ later : List Bool, run policy image (host ++ later) = .ok r))

/-- 60_exceptions.md R226: a step that ends in a fault changes nothing but the status, whose record names the pc it
happened at (decision D18). -/
def Obligations.FaultCommitsNothing : Prop :=
  ∀ (s t : State) (record : FaultRecord), step s = .next t → t.status = .faulted record →
    t = { s with status := .faulted record } ∧ FaultRecord.pc record = s.pc

/-- 70_reset_and_hazards.md R256: after a step that does not fault, an instruction that transfers no control has moved
the pc by exactly its length, within the address space, so the pc never wraps (decision D17). -/
def Obligations.SequentialPcNeverWraps : Prop :=
  ∀ (s t : State) (i : Instr), s.stopRequest = false → fetchInstr s = .ok i → step s = .next t → t.status = .running →
    i.form.transfers = false → t.pc.toNat = s.pc.toNat + i.length ∧ s.pc.toNat + i.length ≤ 0xFFFF

/-- 10_state.md R51: a program can neither read nor clear the stop request: executing with the latch set or clear gives
the same next state but for the latch, which keeps its value. -/
def Obligations.ProgramCannotReadTheStopRequest : Prop :=
  ∀ (i : Instr) (s t : State) (latch : Bool), exec i s = .next t →
    t.stopRequest = s.stopRequest ∧ exec i { s with stopRequest := latch } = .next { t with stopRequest := latch }

/-! ## Invariants -/

/-- Every step keeps the invariant, from every state that has it: memory stays canonical and inside the storage with
ROM1 zero (20_memory.md R71, R74), the low nibble of F stays zero (10_state.md R42), a fault's record stays that of the
instruction at the pc (60_exceptions.md R225, R226). -/
def Obligations.StepKeepsTheInvariant : Prop :=
  ∀ s t : State, s.Inv → step s = .next t → t.Inv

/-- The invariant holds at reset, at construction and after every boot (10_state.md R54, 70_reset_and_hazards.md R251),
and so in every state that a run of any image reaches (R252), under either value of RomWritePolicy. -/
def Obligations.ResetAndBootHaveTheInvariant : Prop :=
  State.reset.Inv ∧ ∀ policy : RomWritePolicy, (State.construct policy).Inv ∧
    (∀ (image : List Byte) (s : State), boot policy image = .ok s → s.Inv) ∧
    ∀ (image : List Byte) (host : List Bool) (r : RunOutput), run policy image host = .ok r → r.state.Inv

/-- 20_memory.md R76, R92: no step changes a byte of ROM, under either value of RomWritePolicy (decision D14). -/
def Obligations.NoStepChangesRom : Prop :=
  ∀ s t : State, step s = .next t → ∀ n : Nat, n < 0x8000 → t.mem.read n = s.mem.read n

/-- 20_memory.md R74: a read of 0x4000–0x7FFF gives 0x00 in every state with the invariant (decision D15). -/
def Obligations.SwitchableBankReadsZero : Prop :=
  ∀ (s : State) (a : Word), s.Inv → regionOf a = .rom1 → readU8 s a = .ok 0x00#8

/-! ## Reset and boot -/

/-- 10_state.md R54: the values at construction, for either value of RomWritePolicy, and so of the state after reset. -/
def Obligations.ResetHasTheDocumentedValues : Prop :=
  ∀ s : State, (s = State.reset ∨ ∃ policy : RomWritePolicy, s = State.construct policy) →
    s.regs.a = 0x00#8 ∧ s.regs.f = 0x00#8 ∧ s.regs.b = 0x00#8 ∧ s.regs.c = 0x00#8 ∧
    s.regs.d = 0x00#8 ∧ s.regs.e = 0x00#8 ∧ s.regs.h = 0x00#8 ∧ s.regs.l = 0x00#8 ∧
    s.sp = 0xFFFE#16 ∧ s.pc = 0x0100#16 ∧ s.status = .running ∧ s.stopRequest = false ∧
    s.regs.flagZ = false ∧ s.regs.flagN = false ∧ s.regs.flagH = false ∧ s.regs.flagC = false

/-- 70_reset_and_hazards.md R251 and R252: after the load, 0x0000–0x3FFF hold the image's first 16384 bytes, every other
byte is 0x00, unmapped addresses have none, and the registers are those of construction (10_state.md R54, R250). The
rest of a longer image is ignored (R253, decision D22). A run starts from this state (00_scope.md R8). The model's own
forms: the flag that says the bank is loaded (log entry 3, DEDUCED), and RomWritePolicy, the argument of R13, carried in
the state with the value the boot was given (log entry 2, DESIGN CHOICE). -/
def Obligations.BootPlacesTheImage : Prop :=
  ∀ (policy : RomWritePolicy) (image : List Byte), 16384 ≤ image.length → ∃ s, boot policy image = .ok s ∧
    (∀ (k : Nat) (h : k < 16384) (h' : k < image.length), s.mem.read k = image[k]) ∧
    (∀ n : Nat, 16384 ≤ n → s.mem.read n = 0x00#8) ∧
    (∀ cell ∈ s.mem, (regionAt cell.1).kind ≠ .unmapped) ∧
    s.regs = State.reset.regs ∧ s.sp = 0xFFFE#16 ∧ s.pc = 0x0100#16 ∧ s.status = .running ∧ s.romLoaded = true ∧
    s.config.romWritePolicy = policy ∧ ∃ r : RunOutput, run policy image [] = .ok r ∧ r.state = s

/-- 20_memory.md R84: `load_fixed_bank` copies exactly 16384 bytes, index i to address i, fails on any other size, and
is called once (that a second call fails is the model's reading, log entry 3). 70_reset_and_hazards.md R253: a shorter
image fails `run` before the first step, whatever the host does (D22). -/
def Obligations.LoadFixedBankCopiesOnceAndChecksTheSize : Prop :=
  (∀ (bytes : List Byte) (s : State), s.romLoaded = false → bytes.length = 16384 →
    ∃ t, loadFixedBank bytes s = .ok t ∧
      (∀ (k : Nat) (h : k < bytes.length), t.mem.read k = bytes[k]) ∧
      (∀ n : Nat, 16384 ≤ n → t.mem.read n = s.mem.read n) ∧
      t = { s with mem := t.mem, romLoaded := true } ∧
      ∀ again : List Byte, loadFixedBank again t = .error .alreadyLoaded) ∧
  (∀ (bytes : List Byte) (s : State), s.romLoaded = false → bytes.length ≠ 16384 →
    loadFixedBank bytes s = .error .wrongSize) ∧
  (∀ (policy : RomWritePolicy) (image : List Byte) (host : List Bool), image.length < 16384 →
    run policy image host = .error .shortImage)

/-! ## Memory -/

/-- 20_memory.md R71, R72: every address is in exactly one region, the one whose range contains it; a backed region's
array holds the address's byte at its offset; the ranges, sizes and kinds are the table's. -/
def Obligations.EveryAddressIsInExactlyOneRegion : Prop :=
  (∀ (n : Nat) (r : Region), n ≤ 0xFFFF → (regionAt n = r ↔ r.first ≤ n ∧ n ≤ r.last)) ∧
  (∀ (s : State) (a : Word), offsetOf a = a.toNat - (regionOf a).first ∧
    ((regionOf a).kind ≠ .unmapped →
      (dumpRegion s (regionOf a))[offsetOf a]? = some (s.mem.read a.toNat) ∧
      readU8 s a = .ok (s.mem.read a.toNat))) ∧
  [Region.rom0, .rom1, .vram, .eram, .wram, .unmapped1, .io, .unmapped2, .hram].map
      (fun r => (r.first, r.last, r.size, r.kind)) =
    [(0x0000, 0x3FFF, 16384, .rom), (0x4000, 0x7FFF, 16384, .rom), (0x8000, 0x9FFF, 8192, .storage),
     (0xA000, 0xBFFF, 8192, .storage), (0xC000, 0xDFFF, 8192, .storage), (0xE000, 0xFEFF, 7936, .unmapped),
     (0xFF00, 0xFF4B, 76, .storage), (0xFF4C, 0xFF7F, 52, .unmapped), (0xFF80, 0xFFFF, 128, .storage)]

/-- 20_memory.md R78: any read of 0xE000–0xFEFF or 0xFF4C–0xFF7F, an instruction fetch among them, raises a memory
fault of kind Read, and any write one of kind Write. -/
def Obligations.UnmappedAddressesFaultOnEveryAccess : Prop :=
  ∀ (s : State) (a : Word) (v : Byte),
    (0xE000 ≤ a.toNat ∧ a.toNat ≤ 0xFEFF) ∨ (0xFF4C ≤ a.toNat ∧ a.toNat ≤ 0xFF7F) →
    readU8 s a = .error (.memoryFault s.pc a .read) ∧ writeU8 s a v = .error (.memoryFault s.pc a .write) ∧
    fetchInstr { s with pc := a } = .error (.memoryFault a a .read)

/-- 20_memory.md R75, R77: where there is storage (VRAM, ERAM, WRAM, IO, HRAM), a write stores the byte, a read in the
state after it returns it, and no other byte, register or flag changes; right after boot, when nothing was stored yet,
every such byte reads 0x00 (70_reset_and_hazards.md R251). That VRAM, ERAM and IO are plain storage with no other effect
is the spec's decision D16 (log entry 14). -/
def Obligations.StoredByteReadsBack : Prop :=
  (∀ (s : State) (a : Word) (v : Byte), storable a → ∃ t, writeU8 s a v = .ok t ∧ readU8 t a = .ok v ∧
    (∀ n : Nat, n ≠ a.toNat → t.mem.read n = s.mem.read n) ∧ t = { s with mem := t.mem }) ∧
  (∀ (policy : RomWritePolicy) (image : List Byte) (s : State) (a : Word),
    boot policy image = .ok s → storable a → readU8 s a = .ok 0x00#8)

/-- 20_memory.md R76: a write to 0x0000–0x7FFF completes with no effect on any state under Ignore, and raises a memory
fault of kind Write under Fault. 00_scope.md R13: the value is the argument of the run (the parameter is decision D14,
the model's carrying of it in the state log entry 2), and every state a run reaches follows it. -/
def Obligations.RomWriteFollowsThePolicy : Prop :=
  ∀ (s : State) (a : Word) (v : Byte), a.toNat ≤ 0x7FFF →
    (s.config.romWritePolicy = .ignore → writeU8 s a v = .ok s) ∧
    (s.config.romWritePolicy = .fault → writeU8 s a v = .error (.memoryFault s.pc a .write)) ∧
    (∀ (image : List Byte) (host : List Bool) (r : RunOutput), run .ignore image host = .ok r → r.state = s →
      writeU8 s a v = .ok s) ∧
    (∀ (image : List Byte) (host : List Bool) (r : RunOutput), run .fault image host = .ok r → r.state = s →
      writeU8 s a v = .error (.memoryFault s.pc a .write))

/-- 20_memory.md R81, R86, R87: a word read is two byte reads at any address, the low byte at the lower address, each
checked by itself and the lower first; past 0xFFFF it faults at 0x0000 (decision D17). -/
def Obligations.WordReadIsLittleEndianByteByByte : Prop :=
  ∀ (s : State) (a : Word),
    (¬readable a → readU16 s a = .error (.memoryFault s.pc a .read)) ∧
    (readable a → a = 0xFFFF#16 → readU16 s a = .error (.memoryFault s.pc 0x0000#16 .read)) ∧
    (readable a → a ≠ 0xFFFF#16 → ¬readable (a + 1) → readU16 s a = .error (.memoryFault s.pc (a + 1) .read)) ∧
    (readable a → a ≠ 0xFFFF#16 → readable (a + 1) → ∃ w : Word, readU16 s a = .ok w ∧
      w.toNat = (s.mem.read (a.toNat + 1)).toNat * 256 + (s.mem.read a.toNat).toNat)

/-- 20_memory.md R97: a word written where both bytes have storage reads back, in the same region or across two. -/
def Obligations.WordRoundTripInStorage : Prop :=
  ∀ (s : State) (a v : Word), a ≠ 0xFFFF#16 → storable a → storable (a + 1) →
    ∃ t, writeU16 s a v = .ok t ∧ readU16 t a = .ok v ∧
      (t.mem.read a.toNat).toNat = v.toNat % 256 ∧ (t.mem.read (a.toNat + 1)).toNat = v.toNat / 256 ∧
      ∀ n : Nat, n ≠ a.toNat → n ≠ a.toNat + 1 → t.mem.read n = s.mem.read n

/-- 20_memory.md R92, 70_reset_and_hazards.md R259: every byte an instruction stores where there is storage (LD (HL),r,
LD (HL),n, LD (nn),A, LDH (n),A, LD (C),A, PUSH and CALL, by `Form.stores`) is the byte every later fetch from that
address gives, as an opcode or as an operand byte, until another byte is stored there. -/
def Obligations.FetchSeesTheStoredByte : Prop :=
  ∀ (f : Form) (s t : State), exec f.toInstr s = .next t → t.status = .running →
    ∀ (a : Word) (v : Byte), (a, v) ∈ f.stores s → storable a →
      ∀ (u : State) (k : Nat), u.mem.read a.toNat = t.mem.read a.toNat → u.pc.toNat + k = a.toNat →
        fetchByte u k = .ok v

/-- 20_memory.md R85: the dump is 57548 bytes, the seven backed regions' bytes in address order (decision D27). -/
def Obligations.DumpListsTheBackedRegions : Prop :=
  ∀ s : State, (dump s).length = 57548 ∧
    (∀ k : Nat, k < 57344 → (dump s)[k]? = some (s.mem.read k)) ∧
    (∀ k : Nat, k < 76 → (dump s)[57344 + k]? = some (s.mem.read (0xFF00 + k))) ∧
    (∀ k : Nat, k < 128 → (dump s)[57420 + k]? = some (s.mem.read (0xFF80 + k)))

/-! ## Registers -/

/-- 10_state.md R43: a pair is its high register times 256 plus its low one, writing a pair writes both halves (POP AF
with the low nibble of F masked, R44), and writing one half changes the pair's value at once. -/
def Obligations.PairsAliasTheirHalves : Prop :=
  ∀ (s : State) (v : Word) (x : Byte),
    ((s.readPair .BC).toNat = s.regs.b.toNat * 256 + s.regs.c.toNat ∧
      (s.readPair .DE).toNat = s.regs.d.toNat * 256 + s.regs.e.toNat ∧
      (s.readPair .HL).toNat = s.regs.h.toNat * 256 + s.regs.l.toNat ∧
      (s.readStackPair .AF).toNat = s.regs.a.toNat * 256 + s.regs.f.toNat ∧
      s.readStackPair .BC = s.readPair .BC ∧ s.readStackPair .DE = s.readPair .DE ∧
      s.readStackPair .HL = s.readPair .HL) ∧
    (s.writePair .BC v = { s with regs := { s.regs with b := hiByte v, c := loByte v } } ∧
      s.writePair .DE v = { s with regs := { s.regs with d := hiByte v, e := loByte v } } ∧
      s.writePair .HL v = { s with regs := { s.regs with h := hiByte v, l := loByte v } } ∧
      s.writeStackPair .AF v = { s with regs := { s.regs with a := hiByte v, f := loByte v &&& 0xF0#8 } } ∧
      s.writeStackPair .BC v = s.writePair .BC v ∧ s.writeStackPair .DE v = s.writePair .DE v ∧
      s.writeStackPair .HL v = s.writePair .HL v) ∧
    ((hiByte v).toNat = v.toNat / 256 ∧ (loByte v).toNat = v.toNat % 256) ∧
    (((s.writeReg .B x).readPair .BC).toNat = x.toNat * 256 + s.regs.c.toNat ∧
      ((s.writeReg .C x).readPair .BC).toNat = s.regs.b.toNat * 256 + x.toNat ∧
      ((s.writeReg .D x).readPair .DE).toNat = x.toNat * 256 + s.regs.e.toNat ∧
      ((s.writeReg .E x).readPair .DE).toNat = s.regs.d.toNat * 256 + x.toNat ∧
      ((s.writeReg .H x).readPair .HL).toNat = x.toNat * 256 + s.regs.l.toNat ∧
      ((s.writeReg .L x).readPair .HL).toNat = s.regs.h.toNat * 256 + x.toNat ∧
      ((s.writeReg .A x).readStackPair .AF).toNat = x.toNat * 256 + s.regs.f.toNat ∧
      (({ s with regs := { s.regs with f := x } } : State).readStackPair .AF).toNat = s.regs.a.toNat * 256 + x.toNat)

/-! ## Loads -/

/-- 40_load.md R140, R143, R144: LD r,r', LD r,n and LD dd,nn complete wherever the next pc is in the address space,
with the copied value in the destination and nothing else but the pc changed. -/
def Obligations.RegisterLoadsComplete : Prop :=
  ∀ s : State,
    (s.pc.toNat + 1 ≤ 0xFFFF → ∀ d r : Reg, exec (Form.ldRegReg d r).toInstr s =
      .next { s with regs := s.regs.write d (s.regs.read r), pc := s.pc + 1 }) ∧
    (s.pc.toNat + 2 ≤ 0xFFFF → ∀ (d : Reg) (n : Byte), exec (Form.ldRegImm d n).toInstr s =
      .next { s with regs := s.regs.write d n, pc := s.pc + 2 }) ∧
    (s.pc.toNat + 3 ≤ 0xFFFF → ∀ nn : Word,
      exec (Form.ldPairImm .BC nn).toInstr s =
        .next { s with regs := { s.regs with b := hiByte nn, c := loByte nn }, pc := s.pc + 3 } ∧
      exec (Form.ldPairImm .DE nn).toInstr s =
        .next { s with regs := { s.regs with d := hiByte nn, e := loByte nn }, pc := s.pc + 3 } ∧
      exec (Form.ldPairImm .HL nn).toInstr s =
        .next { s with regs := { s.regs with h := hiByte nn, l := loByte nn }, pc := s.pc + 3 } ∧
      exec (Form.ldPairImm .SP nn).toInstr s = .next { s with sp := nn, pc := s.pc + 3 })

/-- 40_load.md R141, R146, R148, R150: LD r,(HL), LD A,(nn), LDH A,(n) and LD A,(C) complete wherever the address can be
read and the next pc is in the address space, with the byte read there in the destination (the address of LD r,(HL) is
taken before the write; that LD A,(C) exists is decision D8). -/
def Obligations.LoadsFromMemoryComplete : Prop :=
  ∀ s : State,
    (s.pc.toNat + 1 ≤ 0xFFFF → readable (wordOf s.regs.h s.regs.l) → ∀ d : Reg, exec (Form.ldRegMem d).toInstr s =
      .next { s with regs := s.regs.write d (s.mem.read (s.regs.h.toNat * 256 + s.regs.l.toNat)), pc := s.pc + 1 }) ∧
    (s.pc.toNat + 3 ≤ 0xFFFF → ∀ nn : Word, readable nn → exec (Form.ldADirect nn).toInstr s =
      .next { s with regs := { s.regs with a := s.mem.read nn.toNat }, pc := s.pc + 3 }) ∧
    (s.pc.toNat + 2 ≤ 0xFFFF → ∀ n : Byte, ¬(0x4C ≤ n.toNat ∧ n.toNat ≤ 0x7F) → exec (Form.ldhAOffset n).toInstr s =
      .next { s with regs := { s.regs with a := s.mem.read (0xFF00 + n.toNat) }, pc := s.pc + 2 }) ∧
    (s.pc.toNat + 1 ≤ 0xFFFF → ¬(0x4C ≤ s.regs.c.toNat ∧ s.regs.c.toNat ≤ 0x7F) → exec Form.ldAIndexC.toInstr s =
      .next { s with regs := { s.regs with a := s.mem.read (0xFF00 + s.regs.c.toNat) }, pc := s.pc + 1 })

/-- 40_load.md R142, R145, R147, R149, R151: the stores complete wherever the write is accepted and the next pc is in
the address space: the byte stands at the address where there is storage, ROM under Ignore keeps its bytes
(20_memory.md R76), and nothing else but the pc changes (that LD (C),A exists is decision D8). -/
def Obligations.StoresComplete : Prop :=
  ∀ s : State,
    (s.pc.toNat + 1 ≤ 0xFFFF → acceptsWrite s (hlAddress s) → ∀ r : Reg, exec (Form.ldMemReg r).toInstr s =
      .next { s with mem := memoryAfter s.mem (hlAddress s) (s.regs.read r), pc := s.pc + 1 }) ∧
    (s.pc.toNat + 2 ≤ 0xFFFF → acceptsWrite s (hlAddress s) → ∀ n : Byte, exec (Form.ldMemImm n).toInstr s =
      .next { s with mem := memoryAfter s.mem (hlAddress s) n, pc := s.pc + 2 }) ∧
    (s.pc.toNat + 3 ≤ 0xFFFF → ∀ nn : Word, acceptsWrite s nn → exec (Form.ldDirectA nn).toInstr s =
      .next { s with mem := memoryAfter s.mem nn s.regs.a, pc := s.pc + 3 }) ∧
    (s.pc.toNat + 2 ≤ 0xFFFF → ∀ n : Byte, ¬(0x4C ≤ n.toNat ∧ n.toNat ≤ 0x7F) → exec (Form.ldhOffsetA n).toInstr s =
      .next { s with mem := s.mem.write (0xFF00 + n.toNat) s.regs.a, pc := s.pc + 2 }) ∧
    (s.pc.toNat + 1 ≤ 0xFFFF → ¬(0x4C ≤ s.regs.c.toNat ∧ s.regs.c.toNat ≤ 0x7F) → exec Form.ldIndexCA.toInstr s =
      .next { s with mem := s.mem.write (0xFF00 + s.regs.c.toNat) s.regs.a, pc := s.pc + 1 })

/-- 40_load.md R152: a load that succeeds writes its one destination and no flag, and sets the pc to pc_insn plus its
length. Its destination is the form's: the one register `Form.writesReg` names, the pair of `Form.writesReg` or SP of
`Form.writesSp`, or the one byte at the address of `Form.storesTo` ((HL), nn, 0xFF00 + n or 0xFF00 + C); everything else
is as it was, so the written register, pair or byte is given by its value in t. -/
def Obligations.LoadWritesOneDestinationAndNoFlag : Prop :=
  ∀ (i : Instr) (s t : State), i.form.isLoad = true → s.status = .running → exec i s = .next t → t.status = .running →
    t.regs.f = s.regs.f ∧ t.pc.toNat = s.pc.toNat + i.length ∧
    ((∃ r, (∀ q, i.form.writesReg q = decide (q = r)) ∧ i.form.writesSp = false ∧ i.form.storesTo s = [] ∧
        t = { s with regs := s.regs.write r (t.readReg r), pc := t.pc }) ∨
     (∃ dd, (∀ q, i.form.writesReg q = pairMember dd q) ∧ i.form.writesSp = decide (dd = .SP) ∧
        i.form.storesTo s = [] ∧ t = { s.writePair dd (t.readPair dd) with pc := t.pc }) ∨
     (∃ a, (∀ q, i.form.writesReg q = false) ∧ i.form.writesSp = false ∧ i.form.storesTo s = [a] ∧
        t = { s with mem := memoryAfter s.mem a (t.mem.read a.toNat), pc := t.pc }))

/-- 40_load.md R141, R146, R148, R150 and 41_alu.md R166: a load or an accumulator operation that reads an unmapped
address takes a memory fault of kind Read there and changes nothing else (decisions D8, D18). -/
def Obligations.UnreadableOperandFaults : Prop :=
  ∀ s : State,
    (¬readable (hlAddress s) →
      (∀ d : Reg, exec (Form.ldRegMem d).toInstr s =
        .next { s with status := .faulted (.memoryFault s.pc (hlAddress s) .read) }) ∧
      (∀ op : AluOp, exec (Form.alu op .mHL).toInstr s =
        .next { s with status := .faulted (.memoryFault s.pc (hlAddress s) .read) })) ∧
    (∀ nn : Word, ¬readable nn → exec (Form.ldADirect nn).toInstr s =
      .next { s with status := .faulted (.memoryFault s.pc nn .read) }) ∧
    (∀ n : Byte, 0x4C ≤ n.toNat → n.toNat ≤ 0x7F → exec (Form.ldhAOffset n).toInstr s =
      .next { s with status := .faulted (.memoryFault s.pc (zeroPage n) .read) }) ∧
    (0x4C ≤ s.regs.c.toNat → s.regs.c.toNat ≤ 0x7F → exec Form.ldAIndexC.toInstr s =
      .next { s with status := .faulted (.memoryFault s.pc (zeroPage s.regs.c) .read) })

/-- 40_load.md R142, R145, R147, R149, R151: a store to an unmapped address, or to ROM under Fault, takes a memory fault
of kind Write there and changes nothing else (decisions D8, D14, D18). -/
def Obligations.UnacceptedStoreFaults : Prop :=
  ∀ s : State,
    (¬acceptsWrite s (hlAddress s) →
      (∀ r : Reg, exec (Form.ldMemReg r).toInstr s =
        .next { s with status := .faulted (.memoryFault s.pc (hlAddress s) .write) }) ∧
      (∀ n : Byte, exec (Form.ldMemImm n).toInstr s =
        .next { s with status := .faulted (.memoryFault s.pc (hlAddress s) .write) })) ∧
    (∀ nn : Word, ¬acceptsWrite s nn → exec (Form.ldDirectA nn).toInstr s =
      .next { s with status := .faulted (.memoryFault s.pc nn .write) }) ∧
    (∀ n : Byte, 0x4C ≤ n.toNat → n.toNat ≤ 0x7F → exec (Form.ldhOffsetA n).toInstr s =
      .next { s with status := .faulted (.memoryFault s.pc (zeroPage n) .write) }) ∧
    (0x4C ≤ s.regs.c.toNat → s.regs.c.toNat ≤ 0x7F → exec Form.ldIndexCA.toInstr s =
      .next { s with status := .faulted (.memoryFault s.pc (zeroPage s.regs.c) .write) })

/-! ## Accumulator operations -/

/-- 41_alu.md R160, R168: ADD A,s completes wherever its operand can be read and the next pc is in the address space,
whatever the values: the sum mod 256, Z iff it is zero, N clear, H iff the low nibbles carry, C iff the sum passes 255. -/
def Obligations.AddCompletes : Prop :=
  ∀ (s : State) (src : Src), sourceReadable s src → s.pc.toNat + sourceLength src ≤ 0xFFFF →
    ∃ t, exec (Form.alu .add src).toInstr s = .next t ∧
      t.regs.a.toNat = (s.regs.a.toNat + (sourceValue s src).toNat) % 256 ∧
      (t.regs.flagZ = true ↔ t.regs.a.toNat = 0) ∧ t.regs.flagN = false ∧
      (t.regs.flagH = true ↔ 16 ≤ s.regs.a.toNat % 16 + (sourceValue s src).toNat % 16) ∧
      (t.regs.flagC = true ↔ 256 ≤ s.regs.a.toNat + (sourceValue s src).toNat) ∧
      t = { s with regs := { s.regs with a := t.regs.a, f := t.regs.f }, pc := t.pc } ∧
      t.pc.toNat = s.pc.toNat + sourceLength src ∧ t.regs.f &&& 0x0F#8 = s.regs.f &&& 0x0F#8

/-- 41_alu.md R161: SUB s completes wherever its operand can be read and the next pc is in the address space: the
difference mod 256, Z iff it is zero, N set, H iff the low nibbles borrow (decision D13), C iff A < s. -/
def Obligations.SubCompletes : Prop :=
  ∀ (s : State) (src : Src), sourceReadable s src → s.pc.toNat + sourceLength src ≤ 0xFFFF →
    ∃ t, exec (Form.alu .sub src).toInstr s = .next t ∧
      (t.regs.a.toNat : Int) = ((s.regs.a.toNat : Int) - (sourceValue s src).toNat) % 256 ∧
      (t.regs.flagZ = true ↔ s.regs.a = sourceValue s src) ∧ t.regs.flagN = true ∧
      (t.regs.flagH = true ↔ s.regs.a.toNat % 16 < (sourceValue s src).toNat % 16) ∧
      (t.regs.flagC = true ↔ s.regs.a.toNat < (sourceValue s src).toNat) ∧
      t = { s with regs := { s.regs with a := t.regs.a, f := t.regs.f }, pc := t.pc } ∧
      t.pc.toNat = s.pc.toNat + sourceLength src ∧ t.regs.f &&& 0x0F#8 = s.regs.f &&& 0x0F#8

/-- 41_alu.md R165: CP s completes as SUB s does, with the flags of the subtraction and A not written (H is decision
D13). -/
def Obligations.CompareCompletes : Prop :=
  ∀ (s : State) (src : Src), sourceReadable s src → s.pc.toNat + sourceLength src ≤ 0xFFFF →
    ∃ t, exec (Form.alu .cp src).toInstr s = .next t ∧
      (t.regs.flagZ = true ↔ s.regs.a = sourceValue s src) ∧ t.regs.flagN = true ∧
      (t.regs.flagH = true ↔ s.regs.a.toNat % 16 < (sourceValue s src).toNat % 16) ∧
      (t.regs.flagC = true ↔ s.regs.a.toNat < (sourceValue s src).toNat) ∧
      t = { s with regs := { s.regs with f := t.regs.f }, pc := t.pc } ∧
      t.pc.toNat = s.pc.toNat + sourceLength src ∧ t.regs.f &&& 0x0F#8 = s.regs.f &&& 0x0F#8

/-- 41_alu.md R162, R163, R164: AND s, XOR s and OR s complete wherever the operand can be read and the next pc is in
the address space: the bitwise result, Z iff it is zero, N and C clear, H set by AND and cleared by XOR and OR. -/
def Obligations.BitwiseOperationsComplete : Prop :=
  ∀ (s : State) (src : Src), sourceReadable s src → s.pc.toNat + sourceLength src ≤ 0xFFFF →
    ∀ op : AluOp, op = .and ∨ op = .xor ∨ op = .or →
    ∃ t, exec (Form.alu op src).toInstr s = .next t ∧
      (∀ k : Nat, k < 8 → t.regs.a.getLsbD k =
        (match op with
          | .and => s.regs.a.getLsbD k && (sourceValue s src).getLsbD k
          | .xor => s.regs.a.getLsbD k != (sourceValue s src).getLsbD k
          | _ => s.regs.a.getLsbD k || (sourceValue s src).getLsbD k)) ∧
      (t.regs.flagZ = true ↔ t.regs.a = 0x00#8) ∧ t.regs.flagN = false ∧
      (t.regs.flagH = true ↔ op = .and) ∧ t.regs.flagC = false ∧
      t = { s with regs := { s.regs with a := t.regs.a, f := t.regs.f }, pc := t.pc } ∧
      t.pc.toNat = s.pc.toNat + sourceLength src ∧ t.regs.f &&& 0x0F#8 = s.regs.f &&& 0x0F#8

/-! ## Increment and decrement -/

/-- 41_alu.md R172, R173: INC r and DEC r complete wherever the next pc is in the address space: the register wraps mod
256, Z iff the result is zero, N tells which, H iff the low nibble was 0xF or 0x0, and C is left as it was. -/
def Obligations.IncAndDecRegisterComplete : Prop :=
  ∀ (s : State) (r : Reg), s.pc.toNat + 1 ≤ 0xFFFF →
    (∃ t, exec (Form.incReg r).toInstr s = .next t ∧
      (t.readReg r).toNat = ((s.readReg r).toNat + 1) % 256 ∧
      (t.regs.flagZ = true ↔ (s.readReg r).toNat = 255) ∧ t.regs.flagN = false ∧
      (t.regs.flagH = true ↔ (s.readReg r).toNat % 16 = 15) ∧ t.regs.flagC = s.regs.flagC ∧
      t = { s with regs := { s.regs.write r (t.readReg r) with f := t.regs.f }, pc := s.pc + 1 } ∧
      t.regs.f &&& 0x0F#8 = s.regs.f &&& 0x0F#8) ∧
    (∃ t, exec (Form.decReg r).toInstr s = .next t ∧
      (t.readReg r).toNat = ((s.readReg r).toNat + 255) % 256 ∧
      (t.regs.flagZ = true ↔ (s.readReg r).toNat = 1) ∧ t.regs.flagN = true ∧
      (t.regs.flagH = true ↔ (s.readReg r).toNat % 16 = 0) ∧ t.regs.flagC = s.regs.flagC ∧
      t = { s with regs := { s.regs.write r (t.readReg r) with f := t.regs.f }, pc := s.pc + 1 } ∧
      t.regs.f &&& 0x0F#8 = s.regs.f &&& 0x0F#8)

/-- 41_alu.md R174, R175: INC rr and DEC rr complete wherever the next pc is in the address space: the pair or SP wraps
mod 65536, and F and every other register are unchanged (that no flag is written is decision D12). -/
def Obligations.IncAndDecPairComplete : Prop :=
  ∀ (s : State) (dd : DPair), s.pc.toNat + 1 ≤ 0xFFFF →
    (∃ t, exec (Form.incPair dd).toInstr s = .next t ∧
      (t.readPair dd).toNat = ((s.readPair dd).toNat + 1) % 65536 ∧ t.regs.f = s.regs.f ∧
      t = { s.writePair dd (t.readPair dd) with pc := s.pc + 1 }) ∧
    (∃ t, exec (Form.decPair dd).toInstr s = .next t ∧
      (t.readPair dd).toNat = ((s.readPair dd).toNat + 65535) % 65536 ∧ t.regs.f = s.regs.f ∧
      t = { s.writePair dd (t.readPair dd) with pc := s.pc + 1 })

/-! ## Control transfer -/

/-- 42_control.md R190, R191, R192: JP nn always completes; JR e and a taken JR cc,e complete where pc_insn + 2 + e is
in the address space, a JR cc,e not taken where pc_insn + 2 is; only the pc changes. -/
def Obligations.JumpsComplete : Prop :=
  ∀ s : State,
    (∀ nn : Word, exec (Form.jp nn).toInstr s = .next { s with pc := nn }) ∧
    (∀ e : Int, 0 ≤ (s.pc.toNat : Int) + 2 + e → (s.pc.toNat : Int) + 2 + e ≤ 0xFFFF →
      (∃ t, exec (Form.jr e).toInstr s = .next t ∧ (t.pc.toNat : Int) = s.pc.toNat + 2 + e ∧ t = { s with pc := t.pc }) ∧
      (∀ cc : Cond, s.condHolds cc = true → ∃ t, exec (Form.jrCond cc e).toInstr s = .next t ∧
        (t.pc.toNat : Int) = s.pc.toNat + 2 + e ∧ t = { s with pc := t.pc })) ∧
    (∀ (cc : Cond) (e : Int), s.pc.toNat + 2 ≤ 0xFFFF → s.condHolds cc = false →
      exec (Form.jrCond cc e).toInstr s = .next { s with pc := s.pc + 2 }) ∧
    (s.condHolds .NZ = !s.regs.flagZ ∧ s.condHolds .Z = s.regs.flagZ ∧
      s.condHolds .NC = !s.regs.flagC ∧ s.condHolds .C = s.regs.flagC)

/-- 42_control.md R191, R192: a relative jump that is taken to a target outside 0x0000–0xFFFF takes a memory fault of
kind Read at the target mod 65536, and one not taken at pc_insn = 0xFFFE or above one at pc_insn + 2 mod 65536
(decisions D17, D18). -/
def Obligations.RelativeJumpOutOfRangeFaults : Prop :=
  ∀ (s : State) (e : Int),
    (¬(0 ≤ (s.pc.toNat : Int) + 2 + e ∧ (s.pc.toNat : Int) + 2 + e ≤ 0xFFFF) →
      exec (Form.jr e).toInstr s =
        .next { s with status := .faulted (.memoryFault s.pc (BitVec.ofInt 16 ((s.pc.toNat : Int) + 2 + e)) .read) } ∧
      (∀ cc : Cond, s.condHolds cc = true → exec (Form.jrCond cc e).toInstr s =
        .next { s with status := .faulted (.memoryFault s.pc (BitVec.ofInt 16 ((s.pc.toNat : Int) + 2 + e)) .read) })) ∧
    (∀ cc : Cond, 0xFFFF < s.pc.toNat + 2 → s.condHolds cc = false → exec (Form.jrCond cc e).toInstr s =
        .next { s with status := .faulted (.memoryFault s.pc (s.pc + 2) .read) })

/-- 42_control.md R193: CALL nn completes where the return address is in the address space, SP is at least 2 and both
stack bytes accept a write: the return address stands at SP − 2, low byte first, SP is lowered by 2, the pc is nn. -/
def Obligations.CallCompletes : Prop :=
  ∀ (s : State) (nn : Word), s.pc.toNat + 3 ≤ 0xFFFF → 2 ≤ s.sp.toNat → acceptsWrite s (s.sp - 2) →
    acceptsWrite s (s.sp - 1) →
    exec (Form.call nn).toInstr s =
      .next { s with
        mem := memoryAfter (memoryAfter s.mem (s.sp - 2) (loByte (s.pc + 3))) (s.sp - 1) (hiByte (s.pc + 3))
        sp := s.sp - 2
        pc := nn }

/-- 42_control.md R194: RET completes where both stack bytes can be read and SP + 2 is in the address space: the pc is
the word at SP, low byte first, SP is raised by 2, and nothing else changes. -/
def Obligations.ReturnCompletes : Prop :=
  ∀ s : State, s.sp.toNat + 2 ≤ 0xFFFF → readable s.sp → readable (s.sp + 1) →
    ∃ t, exec Form.ret.toInstr s = .next t ∧
      t.pc.toNat = (s.mem.read (s.sp.toNat + 1)).toNat * 256 + (s.mem.read s.sp.toNat).toNat ∧
      t = { s with sp := s.sp + 2, pc := t.pc }

/-- 42_control.md R195: a CALL and then a RET from a callee that leaves SP and the two stack bytes as the call left
them return to the instruction after the CALL, with the SP before it. -/
def Obligations.ReturnGoesBackBehindTheCall : Prop :=
  ∀ (s t u : State) (nn : Word), s.pc.toNat + 3 ≤ 0xFFFF → 2 ≤ s.sp.toNat → storable (s.sp - 2) → storable (s.sp - 1) →
    exec (Form.call nn).toInstr s = .next t → u.sp = t.sp →
    u.mem.read t.sp.toNat = t.mem.read t.sp.toNat → u.mem.read (t.sp.toNat + 1) = t.mem.read (t.sp.toNat + 1) →
    ∃ v, exec Form.ret.toInstr u = .next v ∧ v.pc = s.pc + 3 ∧ v.sp = s.sp ∧ v.status = u.status

/-! ## Stack -/

/-- 43_stack.md R200: PUSH qq completes where SP is at least 2, both stack bytes accept a write and the next pc is in
the address space: the pair stands at SP − 2, low byte first, and SP is lowered by 2. -/
def Obligations.PushCompletes : Prop :=
  ∀ (s : State) (qq : QPair), s.pc.toNat + 1 ≤ 0xFFFF → 2 ≤ s.sp.toNat → acceptsWrite s (s.sp - 2) →
    acceptsWrite s (s.sp - 1) →
    exec (Form.push qq).toInstr s =
      .next { s with
        mem := memoryAfter (memoryAfter s.mem (s.sp - 2) (loByte (s.readStackPair qq))) (s.sp - 1)
          (hiByte (s.readStackPair qq))
        sp := s.sp - 2
        pc := s.pc + 1 }

/-- 43_stack.md R201: POP qq completes where both stack bytes can be read, SP + 2 and the next pc are in the address
space: the low register is the byte at SP and the high one the byte at SP + 1, SP is raised by 2; POP AF keeps only
F[7:4] of the low byte, every other POP leaves F unchanged (that POP exists is decision D9). -/
def Obligations.PopCompletes : Prop :=
  ∀ s : State, s.pc.toNat + 1 ≤ 0xFFFF → s.sp.toNat + 2 ≤ 0xFFFF → readable s.sp → readable (s.sp + 1) →
    exec (Form.pop .BC).toInstr s = .next { s with
      regs := { s.regs with b := s.mem.read (s.sp.toNat + 1), c := s.mem.read s.sp.toNat }
      sp := s.sp + 2
      pc := s.pc + 1 } ∧
    exec (Form.pop .DE).toInstr s = .next { s with
      regs := { s.regs with d := s.mem.read (s.sp.toNat + 1), e := s.mem.read s.sp.toNat }
      sp := s.sp + 2
      pc := s.pc + 1 } ∧
    exec (Form.pop .HL).toInstr s = .next { s with
      regs := { s.regs with h := s.mem.read (s.sp.toNat + 1), l := s.mem.read s.sp.toNat }
      sp := s.sp + 2
      pc := s.pc + 1 } ∧
    exec (Form.pop .AF).toInstr s = .next { s with
      regs := { s.regs with a := s.mem.read (s.sp.toNat + 1), f := s.mem.read s.sp.toNat &&& 0xF0#8 }
      sp := s.sp + 2
      pc := s.pc + 1 }

/-- 43_stack.md R203: a PUSH and then a POP of the same pair give the pair back and SP its value before the push, where
SP is at least 2 and the two stack bytes have storage. For AF this needs F[3:0] = 0, which the invariant gives. -/
def Obligations.PopAfterPushGivesThePairBack : Prop :=
  ∀ (s : State) (qq : QPair), s.Inv → s.pc.toNat + 2 ≤ 0xFFFF → 2 ≤ s.sp.toNat → storable (s.sp - 2) →
    storable (s.sp - 1) →
    ∃ t u, exec (Form.push qq).toInstr s = .next t ∧ exec (Form.pop qq).toInstr t = .next u ∧
      u.readStackPair qq = s.readStackPair qq ∧ u.sp = s.sp ∧ u.regs = s.regs ∧ u.status = s.status

/-- 43_stack.md R200, R201, R202, 42_control.md R193, R194: where the stack faults. A push or CALL with SP below 2 takes
a write fault at SP − 2 mod 65536; one whose low, or else high, stack byte does not accept a write takes a write fault
there and stores neither byte; a pop or RET takes a read fault at the first stack byte that cannot be read, and at
0x0000 when SP is 0xFFFE or 0xFFFF; CALL at 0xFFFD and above faults for its return address first (decisions D9, D17,
D18, D19). -/
def Obligations.StackFaultsComeInOrder : Prop :=
  ∀ (s : State) (qq : QPair) (nn : Word),
    (s.sp.toNat < 2 →
      exec (Form.push qq).toInstr s = .next { s with status := .faulted (.memoryFault s.pc (s.sp - 2) .write) } ∧
      (s.pc.toNat + 3 ≤ 0xFFFF → exec (Form.call nn).toInstr s =
        .next { s with status := .faulted (.memoryFault s.pc (s.sp - 2) .write) })) ∧
    (2 ≤ s.sp.toNat → ¬acceptsWrite s (s.sp - 2) →
      exec (Form.push qq).toInstr s = .next { s with status := .faulted (.memoryFault s.pc (s.sp - 2) .write) } ∧
      (s.pc.toNat + 3 ≤ 0xFFFF → exec (Form.call nn).toInstr s =
        .next { s with status := .faulted (.memoryFault s.pc (s.sp - 2) .write) })) ∧
    (2 ≤ s.sp.toNat → acceptsWrite s (s.sp - 2) → ¬acceptsWrite s (s.sp - 1) →
      exec (Form.push qq).toInstr s = .next { s with status := .faulted (.memoryFault s.pc (s.sp - 1) .write) } ∧
      (s.pc.toNat + 3 ≤ 0xFFFF → exec (Form.call nn).toInstr s =
        .next { s with status := .faulted (.memoryFault s.pc (s.sp - 1) .write) })) ∧
    (0xFFFF < s.pc.toNat + 3 → exec (Form.call nn).toInstr s =
      .next { s with status := .faulted (.memoryFault s.pc (s.pc + 3) .read) }) ∧
    (∀ f : Form, f = .pop qq ∨ f = .ret →
      (¬readable s.sp → exec f.toInstr s = .next { s with status := .faulted (.memoryFault s.pc s.sp .read) }) ∧
      (readable s.sp → s.sp.toNat < 0xFFFE → ¬readable (s.sp + 1) →
        exec f.toInstr s = .next { s with status := .faulted (.memoryFault s.pc (s.sp + 1) .read) }) ∧
      (0xFFFE ≤ s.sp.toNat →
        exec f.toInstr s = .next { s with status := .faulted (.memoryFault s.pc 0x0000#16 .read) }))

/-! ## RES, NOP, DI and the end of the address space -/

/-- 44_bit_reset.md R210, 45_misc.md R215, R216: RES b,r clears bit b of r and no other; NOP and DI change only the pc;
all complete wherever the next pc is in the address space, and no flag changes. -/
def Obligations.BitResetNopAndDiComplete : Prop :=
  ∀ s : State,
    (s.pc.toNat + 2 ≤ 0xFFFF → ∀ (b : Fin 8) (r : Reg), ∃ v : Byte,
      exec (Form.res b r).toInstr s = .next { s with regs := s.regs.write r v, pc := s.pc + 2 } ∧
      ∀ k : Nat, k < 8 → v.getLsbD k = (if k = b.val then false else (s.regs.read r).getLsbD k)) ∧
    (s.pc.toNat + 1 ≤ 0xFFFF →
      exec Instr.nop s = .next { s with pc := s.pc + 1 } ∧ exec Instr.di s = .next { s with pc := s.pc + 1 })

/-- 70_reset_and_hazards.md R256, 00_scope.md R19, 60_exceptions.md R226: an instruction that transfers no control, none
of whose accesses faults, and whose next pc would pass 0xFFFF takes a memory fault of kind Read at the next pc mod 65536
and changes nothing else: a store or a push that succeeded is not committed, nor is a load, a pop or a flag. It covers
the forms that access no memory and the loads, stores, accumulator operations on (HL), PUSH and POP (decisions D17,
D18). An access that faults is reported before the next pc: UnreadableOperandFaults, UnacceptedStoreFaults and
StackFaultsComeInOrder state that at every pc. -/
def Obligations.NextPcPastTheEndFaults : Prop :=
  ∀ (i : Instr) (s : State), i.form.transfers = false → i.form.AccessesSucceed s →
    0xFFFF < s.pc.toNat + i.length →
    exec i s =
      .next { s with status := .faulted (.memoryFault s.pc (s.pc + BitVec.ofNat 16 i.length) .read) }

/-! ## Frames -/

/-- 10_state.md R46: only the accumulator operations, INC r, DEC r and POP AF write flags, and INC r and DEC r leave C;
every other instruction leaves all of F unchanged. -/
def Obligations.OnlyTheListedInstructionsWriteFlags : Prop :=
  ∀ (i : Instr) (s t : State), exec i s = .next t →
    ((∀ op src, i.form ≠ .alu op src) → (∀ r, i.form ≠ .incReg r) → (∀ r, i.form ≠ .decReg r) → i.form ≠ .pop .AF →
      t.regs.f = s.regs.f) ∧
    (∀ r, i.form = .incReg r ∨ i.form = .decReg r → t.regs.flagC = s.regs.flagC)

/-- The frame of the loads into a register: LD r,r', LD r,(HL), LD r,n, LD dd,nn, LD A,(nn), LDH A,(n), LD A,(C). No
byte of memory changes (40_load.md R152). -/
def Obligations.RegisterLoadsKeepTheRest : Prop :=
  ∀ (f : Form) (s t : State),
    (match f with
      | .ldRegReg _ _ | .ldRegMem _ | .ldRegImm _ _ | .ldPairImm _ _ | .ldADirect _ | .ldhAOffset _ | .ldAIndexC => True
      | _ => False) →
    exec f.toInstr s = .next t → f.Frame s t

/-- The frame of the accumulator operations, INC and DEC: no byte of memory changes, A or the one register or pair
named, the flags of 10_state.md R46 and no other bit of F. -/
def Obligations.ArithmeticKeepsTheRest : Prop :=
  ∀ (f : Form) (s t : State),
    (match f with
      | .alu _ _ | .incReg _ | .decReg _ | .incPair _ | .decPair _ => True
      | _ => False) →
    exec f.toInstr s = .next t → f.Frame s t

/-- The frame of the stores: LD (HL),r, LD (HL),n, LD (nn),A, LDH (n),A, LD (C),A. No register changes, and no byte of
memory outside the one address the instruction computes. -/
def Obligations.StoresKeepTheRest : Prop :=
  ∀ (f : Form) (s t : State),
    (match f with
      | .ldMemReg _ | .ldMemImm _ | .ldDirectA _ | .ldhOffsetA _ | .ldIndexCA => True
      | _ => False) →
    exec f.toInstr s = .next t → f.Frame s t

/-- The frame of PUSH and CALL: SP changes, no other register, and no byte of memory outside the two at SP − 2. -/
def Obligations.PushAndCallKeepTheRest : Prop :=
  ∀ (f : Form) (s t : State),
    (match f with
      | .push _ | .call _ => True
      | _ => False) →
    exec f.toInstr s = .next t → f.Frame s t

/-- The frame of the instructions that store nothing and are none of the above: POP and RET (SP, and POP's pair), JP,
JR, JR cc, RES (one register), NOP and DI. -/
def Obligations.PopJumpsAndBitResetKeepTheRest : Prop :=
  ∀ (f : Form) (s t : State),
    (match f with
      | .pop _ | .ret | .jp _ | .jr _ | .jrCond _ _ | .res _ _ | .nop | .di => True
      | _ => False) →
    exec f.toInstr s = .next t → f.Frame s t

/-! ## The host's view -/

/-- 60_exceptions.md R225: the report of a faulted machine holds the record, the register file and the dump of the state
the fault left, a stopped or running machine has none, and the codes are 1 and 2 for the kinds, 0 and 1 for the
accesses (decision D20). A run that ended in a fault has returned and hands the host this report (00_scope.md R8). -/
def Obligations.FaultReportHoldsTheRecordAndTheDump : Prop :=
  (∀ (s : State) (record : FaultRecord), s.status = .faulted record → ∃ report, faultReport s = some report ∧
    report.record = record ∧ report.regs = s.regs ∧ report.sp = s.sp ∧ report.pc = s.pc ∧ report.memory = dump s) ∧
  (∀ s : State, s.status = .running ∨ s.status = .stopped → faultReport s = none) ∧
  (∀ (pc a : Word) (bytes : List Byte) (k : Access), FaultRecord.kind (.decodeFault pc bytes) = 1 ∧
    FaultRecord.kind (.memoryFault pc a k) = 2) ∧
  Access.code .read = 0 ∧ Access.code .write = 1 ∧
  (∀ (policy : RomWritePolicy) (image : List Byte) (host : List Bool) (r : RunOutput) (record : FaultRecord),
    run policy image host = .ok r → r.state.status = .faulted record →
    r.returned = true ∧ r.report = some { record := record, regs := r.state.regs, sp := r.state.sp, pc := r.state.pc,
                                          memory := dump r.state })

/-- 60_exceptions.md R236 says that an executed instruction may emit a record of its mnemonic, its operands and the
resulting pc. The model's choice (log entry 8, DESIGN CHOICE; the format is open, decision D28): an executed instruction
emits the record, as this data with the mnemonics and operands of `Form.mnemonic` and `Form.operands`, and an instruction
that faults emits none. The records of a run are those of its steps in order, one for each executed instruction, and
the last one holds the pc of the state the run has reached, also after it has stopped or faulted. -/
def Obligations.TraceRecordHoldsTheResultingPc : Prop :=
  (∀ (i : Instr) (s t : State), s.status = .running → exec i s = .next t →
    (t.status = .running →
      traceExec i s = some { mnemonic := i.form.mnemonic, operands := i.form.operands, resultingPc := t.pc }) ∧
    (∀ record, t.status = .faulted record → traceExec i s = none)) ∧
  (∀ (policy : RomWritePolicy) (image : List Byte) (host : List Bool) (r : RunOutput),
    run policy image host = .ok r →
    (r.state.status = .running → r.trace.length = host.length) ∧
    (∀ record : TraceRecord, r.trace.getLast? = some record → record.resultingPc = r.state.pc) ∧
    ∀ (i : Instr) (t : State), r.state.stopRequest = false → r.state.status = .running → fetchInstr r.state = .ok i →
      exec i r.state = .next t → t.status = .running →
      ∃ r' : RunOutput, run policy image (host ++ [false]) = .ok r' ∧
        r'.trace = r.trace ++ [{ mnemonic := i.form.mnemonic, operands := i.form.operands, resultingPc := t.pc }])
end

