-- ==== Sys2Proof/Laws/Decode.lean ====
section
/-! SUPPORT. Decode laws: the decoder by its two tables, and displacements. -/

namespace Sys2Proof

/-- Bytes that do not start with the escape byte decode through the primary table (30_encoding.md R112). -/
theorem decode_primary (b : Byte) (rest : List Byte) (h : b ≠ escapeByte) :
    decode (b :: rest) =
      match decodePrimary b with
      | some op => op.complete rest
      | none => .error (.undefined [b]) := by
  exact if_neg h

/-- The escape byte sends the next byte to the extended table (30_encoding.md R112). -/
theorem decode_extended (b : Byte) (rest : List Byte) :
    decode (escapeByte :: b :: rest) =
      match decodeExtended b with
      | some f => .ok (f.toInstr, rest)
      | none => .error (.undefined [escapeByte, b]) := by
  rfl

theorem decode_nil : decode [] = .error .truncated := rfl

theorem decode_escape_alone : decode [escapeByte] = .error .truncated := rfl

/-- The byte of an encodable displacement reads back as it (30_encoding.md R117). -/
theorem sext8_displacementByte (e : Int) (h : displacementOk e = true) : sext8 (displacementByte e) = e := by
  simp only [displacementOk, Bool.and_eq_true, decide_eq_true_eq] at h
  unfold sext8 displacementByte
  rw [BitVec.toNat_ofInt]
  split <;> omega

/-- Every byte is the byte of the displacement it reads as, which is encodable (30_encoding.md R117). -/
theorem displacementByte_sext8 : ∀ b : Byte, displacementByte (sext8 b) = b ∧ displacementOk (sext8 b) = true := by
  decide

end Sys2Proof
end

