-- ==== Sys2Proof/Laws/Memory.lean ====
section
/-! SUPPORT. Memory laws: a read after a write, the canonical form kept by every memory operation, and that equal
canonical memories are equal data. -/

namespace Sys2Proof.Machine

/-! ## Reads after each operation -/

theorem Memory.read_erase (m : Memory) (n k : Nat) :
    (m.erase n).read k = if k = n then Memory.unlisted else m.read k := by
  induction m with
  | nil => simp [Memory.erase, Memory.read]
  | cons cell m ih =>
    simp only [Memory.erase, List.filter_cons] at ih ⊢
    by_cases hc : cell.1 = n
    · by_cases hk : k = n
      · simp_all
      · simp_all [Memory.read, Ne.symm hk]
    · by_cases hk : cell.1 = k
      · have : k ≠ n := fun h => hc (hk.trans h)
        simp [Memory.read, hk, this]
      · simp [hc, Memory.read, hk, ih]

theorem Memory.read_insert (m : Memory) (n : Nat) (v : Byte) (h : ∀ cell ∈ m, cell.1 ≠ n) (k : Nat) :
    (Memory.insert m n v).read k = if k = n then v else m.read k := by
  induction m with
  | nil => by_cases hk : n = k <;> simp [Memory.insert, Memory.read, hk, eq_comm]
  | cons cell m ih =>
    have ih := ih fun c hc => h c (List.mem_cons_of_mem _ hc)
    have hne : cell.1 ≠ n := h cell List.mem_cons_self
    simp only [Memory.insert]
    split
    · by_cases hk : n = k <;> simp [Memory.read, hk, eq_comm]
    · by_cases hk : cell.1 = k
      · have : k ≠ n := fun h' => hne (hk.trans h')
        simp [Memory.read, hk, this]
      · simp [Memory.read, hk, ih]

theorem Memory.erase_ne (m : Memory) (n : Nat) : ∀ cell ∈ m.erase n, cell.1 ≠ n := by
  intro cell h
  simpa [Memory.erase] using (List.mem_filter.mp h).2

/-- A read after a write: the byte written at its address, every other address as before. -/
theorem Memory.read_write (m : Memory) (n : Nat) (v : Byte) (k : Nat) :
    (m.write n v).read k = if k = n then v else m.read k := by
  unfold Memory.write
  split
  · next hv => rw [Memory.read_erase, hv]
  · rw [Memory.read_insert _ _ _ (Memory.erase_ne m n), Memory.read_erase]
    split <;> simp_all

@[simp] theorem Memory.read_write_same (m : Memory) (n : Nat) (v : Byte) : (m.write n v).read n = v := by
  simp [Memory.read_write]

theorem Memory.read_write_ne (m : Memory) (n : Nat) (v : Byte) {k : Nat} (h : k ≠ n) :
    (m.write n v).read k = m.read k := by
  simp [Memory.read_write, h]

/-! ## The canonical form -/

theorem Memory.wf_erase (m : Memory) (n : Nat) (h : m.wf) : (m.erase n).wf :=
  ⟨h.1.filter _, fun cell hc => h.2 cell (List.mem_filter.mp hc).1⟩

theorem Memory.mem_insert {m : Memory} {n : Nat} {v : Byte} {cell : Host.Cell}
    (h : cell ∈ Memory.insert m n v) : cell = (n, v) ∨ cell ∈ m := by
  induction m with
  | nil => simpa [Memory.insert] using h
  | cons c m ih =>
    simp only [Memory.insert] at h
    split at h
    · simpa using h
    · rcases List.mem_cons.mp h with h | h
      · simp [h]
      · rcases ih h with h | h <;> simp [h]

theorem Memory.wf_insert (m : Memory) (n : Nat) (v : Byte) (hv : v ≠ Memory.unlisted) (hn : ∀ cell ∈ m, cell.1 ≠ n)
    (h : m.wf) : (Memory.insert m n v).wf := by
  refine ⟨?_, fun cell hc => (Memory.mem_insert hc).elim (fun e => e ▸ hv) (h.2 cell)⟩
  have hs := h.1
  clear h
  induction m with
  | nil => simp [Memory.insert]
  | cons c m ih =>
    have hp := List.pairwise_cons.mp hs
    simp only [Memory.insert]
    split
    · next hlt =>
      refine List.pairwise_cons.mpr ⟨fun x hx => ?_, hs⟩
      rcases List.mem_cons.mp hx with rfl | hx
      · exact hlt
      · exact lt_trans hlt (hp.1 x hx)
    · next hge =>
      refine List.pairwise_cons.mpr ⟨fun x hx => ?_, ih (fun x hx => hn x (List.mem_cons_of_mem _ hx)) hp.2⟩
      rcases Memory.mem_insert hx with rfl | hx
      · have := hn c List.mem_cons_self
        show c.1 < n
        omega
      · exact hp.1 x hx

/-- A write keeps the canonical form. -/
theorem Memory.wf_write (m : Memory) (n : Nat) (v : Byte) (h : m.wf) : (m.write n v).wf := by
  unfold Memory.write
  split
  · exact Memory.wf_erase m n h
  · next hv => exact Memory.wf_insert _ n v hv (Memory.erase_ne m n) (Memory.wf_erase m n h)

theorem Memory.mem_write {m : Memory} {n : Nat} {v : Byte} {cell : Host.Cell} (h : cell ∈ m.write n v) :
    cell = (n, v) ∨ cell ∈ m := by
  unfold Memory.write at h
  split at h
  · exact .inr (List.mem_filter.mp h).1
  · exact (Memory.mem_insert h).imp_right fun h => (List.mem_filter.mp h).1

/-- A write to an address with storage outside ROM1 keeps memory within the storage. -/
theorem Memory.mapped_write (m : Memory) (n : Nat) (v : Byte)
    (hn : n ≤ 0xFFFF ∧ (regionAt n).kind ≠ .unmapped ∧ regionAt n ≠ .rom1) (h : m.mapped) : (m.write n v).mapped :=
  fun cell hc => (Memory.mem_write hc).elim (fun e => by subst e; exact hn) (h cell)

theorem Memory.wf_nil : Memory.wf [] := ⟨List.Pairwise.nil, fun _ h => absurd h List.not_mem_nil⟩

theorem Memory.mapped_nil : Memory.mapped [] := fun _ h => absurd h List.not_mem_nil

theorem Memory.wf_tail {cell : Host.Cell} {m : Memory} (h : Memory.wf (cell :: m)) : Memory.wf m :=
  ⟨(List.pairwise_cons.mp h.1).2, fun c hc => h.2 c (List.mem_cons_of_mem _ hc)⟩

/-- An address below every listed one reads as unlisted. -/
theorem Memory.read_of_not_listed (m : Memory) (n : Nat) (h : ∀ cell ∈ m, cell.1 ≠ n) : m.read n = Memory.unlisted := by
  induction m with
  | nil => rfl
  | cons c m ih =>
    simp [Memory.read, h c List.mem_cons_self, ih fun x hx => h x (List.mem_cons_of_mem _ hx)]

/-- Canonical memories that read the same everywhere are the same data. -/
theorem Memory.eq_of_read_eq : ∀ (m m' : Memory), m.wf → m'.wf → (∀ n, m.read n = m'.read n) → m = m'
  | [], [], _, _, _ => rfl
  | [], c :: m', _, h', he => absurd (by simpa [Memory.read] using (he c.1).symm) (h'.2 c List.mem_cons_self)
  | c :: m, [], h, _, he => absurd (by simpa [Memory.read] using he c.1) (h.2 c List.mem_cons_self)
  | (n, v) :: m, (n', v') :: m', h, h', he => by
    have hp := (List.pairwise_cons.mp h.1).1
    have hp' := (List.pairwise_cons.mp h'.1).1
    have hnn : n = n' := by
      rcases lt_trichotomy n n' with hlt | heq | hgt
      · refine absurd ?_ (h.2 (n, v) List.mem_cons_self)
        have := he n
        rw [Memory.read_of_not_listed ((n', v') :: m') n] at this
        · simpa [Memory.read] using this
        · intro x hx
          rcases List.mem_cons.mp hx with rfl | hx
          · exact ne_of_gt hlt
          · exact ne_of_gt (lt_trans hlt (hp' x hx))
      · exact heq
      · refine absurd ?_ (h'.2 (n', v') List.mem_cons_self)
        have := he n'
        rw [Memory.read_of_not_listed ((n, v) :: m) n'] at this
        · simpa [Memory.read] using this.symm
        · intro x hx
          rcases List.mem_cons.mp hx with rfl | hx
          · exact ne_of_gt hgt
          · exact ne_of_gt (lt_trans hgt (hp x hx))
    subst hnn
    have hv : v = v' := by simpa [Memory.read] using he n
    subst hv
    have htail : m = m' := by
      refine Memory.eq_of_read_eq m m' (Memory.wf_tail h) (Memory.wf_tail h') fun k => ?_
      by_cases hk : n = k
      · subst hk
        rw [Memory.read_of_not_listed m n fun x hx => ne_of_gt (hp x hx),
          Memory.read_of_not_listed m' n fun x hx => ne_of_gt (hp' x hx)]
      · simpa [Memory.read, hk] using he k
    rw [htail]

/-! ## Loading the fixed bank -/

theorem Memory.mem_cellsFrom {n : Nat} {vs : List Byte} {cell : Host.Cell} (h : cell ∈ Memory.cellsFrom n vs) :
    n ≤ cell.1 ∧ cell.1 < n + vs.length ∧ cell.2 ≠ Memory.unlisted := by
  induction vs generalizing n with
  | nil => simp [Memory.cellsFrom] at h
  | cons v vs ih =>
    simp only [Memory.cellsFrom] at h
    split at h
    · have := ih h
      simp only [List.length_cons]
      exact ⟨by omega, by omega, this.2.2⟩
    · next hv =>
      rcases List.mem_cons.mp h with rfl | h
      · simpa using hv
      · have := ih h
        simp only [List.length_cons]
        exact ⟨by omega, by omega, this.2.2⟩

theorem Memory.cellsFrom_sorted (n : Nat) (vs : List Byte) :
    (Memory.cellsFrom n vs).Pairwise (fun x y => x.1 < y.1) := by
  induction vs generalizing n with
  | nil => simp [Memory.cellsFrom]
  | cons v vs ih =>
    simp only [Memory.cellsFrom]
    split
    · exact ih _
    · exact List.pairwise_cons.mpr ⟨fun x hx => (Memory.mem_cellsFrom hx).1, ih _⟩

theorem Memory.read_append_of_lt (m m' : Memory) (n : Nat) (h : ∀ cell ∈ m', cell.1 ≠ n) :
    Memory.read (m ++ m') n = m.read n := by
  induction m with
  | nil => exact Memory.read_of_not_listed m' n h
  | cons c m ih => simp [Memory.read, ih]

theorem Memory.read_append_of_ge (m m' : Memory) (n : Nat) (h : ∀ cell ∈ m, cell.1 ≠ n) :
    Memory.read (m ++ m') n = m'.read n := by
  induction m with
  | nil => rfl
  | cons c m ih =>
    simp [Memory.read, h c List.mem_cons_self, ih fun x hx => h x (List.mem_cons_of_mem _ hx)]

theorem Memory.read_cellsFrom (n : Nat) (vs : List Byte) (k : Nat) :
    (Memory.cellsFrom n vs).read (n + k) = vs.getD k Memory.unlisted := by
  induction vs generalizing n k with
  | nil => simp [Memory.cellsFrom, Memory.read]
  | cons v vs ih =>
    cases k with
    | zero =>
      by_cases hv : v = Memory.unlisted
      · simp only [Memory.cellsFrom, hv, if_true, Nat.add_zero, List.getD_cons_zero]
        exact Memory.read_of_not_listed _ _ fun x hx => by have := (Memory.mem_cellsFrom hx).1; omega
      · simp [Memory.cellsFrom, hv, Memory.read]
    | succ k =>
      have he : n + (k + 1) = n + 1 + k := by omega
      by_cases hv : v = Memory.unlisted
      · simpa [Memory.cellsFrom, hv, he] using ih (n + 1) k
      · have : n ≠ n + 1 + k := by omega
        simpa [Memory.cellsFrom, hv, Memory.read, this, he] using ih (n + 1) k

theorem Memory.read_filter_ge (m : Memory) (b n : Nat) (h : b ≤ n) :
    Memory.read (m.filter fun cell => decide (b ≤ cell.1)) n = m.read n := by
  induction m with
  | nil => rfl
  | cons c m ih =>
    by_cases hc : b ≤ c.1
    · simp [hc, Memory.read, ih]
    · have : c.1 ≠ n := by omega
      simp [hc, Memory.read, this, ih]

/-- After the load, address k below the bank's end holds byte k of the image and every other address is as before. -/
theorem Memory.read_loadLow (m : Memory) (bytes : List Byte) (n : Nat) :
    (m.loadLow bytes).read n = if n < bytes.length then bytes.getD n Memory.unlisted else m.read n := by
  unfold Memory.loadLow
  split
  · rw [Memory.read_append_of_lt]
    · simpa using Memory.read_cellsFrom 0 bytes n
    · intro x hx
      have := (List.mem_filter.mp hx).2
      simp only [decide_eq_true_eq] at this
      omega
  · rw [Memory.read_append_of_ge]
    · exact Memory.read_filter_ge m _ n (by omega)
    · intro x hx
      have := (Memory.mem_cellsFrom hx).2.1
      omega

/-- The load keeps the canonical form. -/
theorem Memory.wf_loadLow (m : Memory) (bytes : List Byte) (h : m.wf) : (m.loadLow bytes).wf := by
  refine ⟨List.pairwise_append.mpr ⟨Memory.cellsFrom_sorted 0 bytes, h.1.filter _, fun x hx y hy => ?_⟩, fun x hx => ?_⟩
  · have h1 := (Memory.mem_cellsFrom hx).2.1
    have h2 := (List.mem_filter.mp hy).2
    simp only [decide_eq_true_eq] at h2
    omega
  · rcases List.mem_append.mp hx with hx | hx
    · exact (Memory.mem_cellsFrom hx).2.2
    · exact h.2 x (List.mem_filter.mp hx).1

/-! ## A write that raises nothing -/

theorem memoryAfter_storable (m : Memory) {a : Word} (v : Byte) (h : storable a) :
    memoryAfter m a v = m.write a.toNat v := if_pos h

theorem memoryAfter_rom (m : Memory) {a : Word} (v : Byte) (h : ¬storable a) : memoryAfter m a v = m := if_neg h

/-- Every byte but the one at the address is as before (20_memory.md R82). -/
theorem memoryAfter_read_ne (m : Memory) (a : Word) (v : Byte) {n : Nat} (h : n ≠ a.toNat) :
    (memoryAfter m a v).read n = m.read n := by
  unfold memoryAfter
  split
  · exact Memory.read_write_ne m _ v h
  · rfl

/-- A write that raises nothing keeps the canonical form. -/
theorem memoryAfter_wf (m : Memory) (a : Word) (v : Byte) (h : m.wf) : (memoryAfter m a v).wf := by
  unfold memoryAfter
  split
  · exact Memory.wf_write m _ v h
  · exact h

/-- A write that raises nothing keeps memory within the storage. -/
theorem memoryAfter_mapped (m : Memory) (a : Word) (v : Byte) (h : m.mapped) : (memoryAfter m a v).mapped := by
  unfold memoryAfter
  split
  · next hs =>
    refine Memory.mapped_write m _ v ⟨by have := a.isLt; omega, ?_, fun hr => ?_⟩ h
    · show (regionOf a).kind ≠ .unmapped
      rw [hs]
      exact RegionKind.noConfusion
    · have hk : (regionOf a).kind = .rom := by rw [regionOf, hr]; rfl
      rw [hs] at hk
      cases hk
  · exact h

/-- No region below 0x8000 has storage (20_memory.md R71). -/
theorem not_storable_of_lt {a : Word} (h : a.toNat < 0x8000) : ¬storable a := by
  by_cases h1 : a.toNat < 0x4000
  · simp [storable, regionOf, regionAt, h1, Region.kind]
  · simp [storable, regionOf, regionAt, h1, h, Region.kind]

/-- Memory at construction lists nothing, which is canonical (10_state.md R54). -/
theorem State.construct_mem_wf (policy : RomWritePolicy) : (State.construct policy).mem.wf := Memory.wf_nil

theorem State.reset_mem_wf : State.reset.mem.wf := State.construct_mem_wf _

end Sys2Proof.Machine
end

