-- ==== Sys2Proof/Laws/State.lean ====
section
/-! SUPPORT. State laws: one lemma per field per update, and reading back what was written (10_state.md R43 to R45). -/

namespace Sys2Proof.Machine

@[simp] theorem State.setRegs_regs (s : State) (v : RegFile) : (s.setRegs v).regs = v := rfl
@[simp] theorem State.setRegs_sp (s : State) (v : RegFile) : (s.setRegs v).sp = s.sp := rfl
@[simp] theorem State.setRegs_pc (s : State) (v : RegFile) : (s.setRegs v).pc = s.pc := rfl
@[simp] theorem State.setRegs_status (s : State) (v : RegFile) : (s.setRegs v).status = s.status := rfl
@[simp] theorem State.setRegs_stopRequest (s : State) (v : RegFile) : (s.setRegs v).stopRequest = s.stopRequest := rfl
@[simp] theorem State.setRegs_mem (s : State) (v : RegFile) : (s.setRegs v).mem = s.mem := rfl
@[simp] theorem State.setRegs_romLoaded (s : State) (v : RegFile) : (s.setRegs v).romLoaded = s.romLoaded := rfl
@[simp] theorem State.setRegs_config (s : State) (v : RegFile) : (s.setRegs v).config = s.config := rfl

@[simp] theorem State.setSp_regs (s : State) (v : Word) : (s.setSp v).regs = s.regs := rfl
@[simp] theorem State.setSp_sp (s : State) (v : Word) : (s.setSp v).sp = v := rfl
@[simp] theorem State.setSp_pc (s : State) (v : Word) : (s.setSp v).pc = s.pc := rfl
@[simp] theorem State.setSp_status (s : State) (v : Word) : (s.setSp v).status = s.status := rfl
@[simp] theorem State.setSp_stopRequest (s : State) (v : Word) : (s.setSp v).stopRequest = s.stopRequest := rfl
@[simp] theorem State.setSp_mem (s : State) (v : Word) : (s.setSp v).mem = s.mem := rfl
@[simp] theorem State.setSp_romLoaded (s : State) (v : Word) : (s.setSp v).romLoaded = s.romLoaded := rfl
@[simp] theorem State.setSp_config (s : State) (v : Word) : (s.setSp v).config = s.config := rfl

@[simp] theorem State.setPc_regs (s : State) (v : Word) : (s.setPc v).regs = s.regs := rfl
@[simp] theorem State.setPc_sp (s : State) (v : Word) : (s.setPc v).sp = s.sp := rfl
@[simp] theorem State.setPc_pc (s : State) (v : Word) : (s.setPc v).pc = v := rfl
@[simp] theorem State.setPc_status (s : State) (v : Word) : (s.setPc v).status = s.status := rfl
@[simp] theorem State.setPc_stopRequest (s : State) (v : Word) : (s.setPc v).stopRequest = s.stopRequest := rfl
@[simp] theorem State.setPc_mem (s : State) (v : Word) : (s.setPc v).mem = s.mem := rfl
@[simp] theorem State.setPc_romLoaded (s : State) (v : Word) : (s.setPc v).romLoaded = s.romLoaded := rfl
@[simp] theorem State.setPc_config (s : State) (v : Word) : (s.setPc v).config = s.config := rfl

@[simp] theorem State.setMem_regs (s : State) (v : Memory) : (s.setMem v).regs = s.regs := rfl
@[simp] theorem State.setMem_sp (s : State) (v : Memory) : (s.setMem v).sp = s.sp := rfl
@[simp] theorem State.setMem_pc (s : State) (v : Memory) : (s.setMem v).pc = s.pc := rfl
@[simp] theorem State.setMem_status (s : State) (v : Memory) : (s.setMem v).status = s.status := rfl
@[simp] theorem State.setMem_stopRequest (s : State) (v : Memory) : (s.setMem v).stopRequest = s.stopRequest := rfl
@[simp] theorem State.setMem_mem (s : State) (v : Memory) : (s.setMem v).mem = v := rfl
@[simp] theorem State.setMem_romLoaded (s : State) (v : Memory) : (s.setMem v).romLoaded = s.romLoaded := rfl
@[simp] theorem State.setMem_config (s : State) (v : Memory) : (s.setMem v).config = s.config := rfl

@[simp] theorem State.setStatus_regs (s : State) (v : Status) : (s.setStatus v).regs = s.regs := rfl
@[simp] theorem State.setStatus_sp (s : State) (v : Status) : (s.setStatus v).sp = s.sp := rfl
@[simp] theorem State.setStatus_pc (s : State) (v : Status) : (s.setStatus v).pc = s.pc := rfl
@[simp] theorem State.setStatus_status (s : State) (v : Status) : (s.setStatus v).status = v := rfl
@[simp] theorem State.setStatus_stopRequest (s : State) (v : Status) : (s.setStatus v).stopRequest = s.stopRequest := rfl
@[simp] theorem State.setStatus_mem (s : State) (v : Status) : (s.setStatus v).mem = s.mem := rfl
@[simp] theorem State.setStatus_romLoaded (s : State) (v : Status) : (s.setStatus v).romLoaded = s.romLoaded := rfl
@[simp] theorem State.setStatus_config (s : State) (v : Status) : (s.setStatus v).config = s.config := rfl

@[simp] theorem State.writeReg_regs (s : State) (r : Reg) (v : Byte) : (s.writeReg r v).regs = s.regs.write r v := rfl
@[simp] theorem State.writeReg_sp (s : State) (r : Reg) (v : Byte) : (s.writeReg r v).sp = s.sp := rfl
@[simp] theorem State.writeReg_pc (s : State) (r : Reg) (v : Byte) : (s.writeReg r v).pc = s.pc := rfl
@[simp] theorem State.writeReg_status (s : State) (r : Reg) (v : Byte) : (s.writeReg r v).status = s.status := rfl
@[simp] theorem State.writeReg_stopRequest (s : State) (r : Reg) (v : Byte) : (s.writeReg r v).stopRequest = s.stopRequest := rfl
@[simp] theorem State.writeReg_mem (s : State) (r : Reg) (v : Byte) : (s.writeReg r v).mem = s.mem := rfl
@[simp] theorem State.writeReg_romLoaded (s : State) (r : Reg) (v : Byte) : (s.writeReg r v).romLoaded = s.romLoaded := rfl
@[simp] theorem State.writeReg_config (s : State) (r : Reg) (v : Byte) : (s.writeReg r v).config = s.config := rfl

@[simp] theorem State.setFlags_regs (s : State) (z n h c : Bool) : (s.setFlags z n h c).regs = s.regs.setFlags z n h c := rfl
@[simp] theorem State.setFlags_sp (s : State) (z n h c : Bool) : (s.setFlags z n h c).sp = s.sp := rfl
@[simp] theorem State.setFlags_pc (s : State) (z n h c : Bool) : (s.setFlags z n h c).pc = s.pc := rfl
@[simp] theorem State.setFlags_status (s : State) (z n h c : Bool) : (s.setFlags z n h c).status = s.status := rfl
@[simp] theorem State.setFlags_stopRequest (s : State) (z n h c : Bool) : (s.setFlags z n h c).stopRequest = s.stopRequest := rfl
@[simp] theorem State.setFlags_mem (s : State) (z n h c : Bool) : (s.setFlags z n h c).mem = s.mem := rfl
@[simp] theorem State.setFlags_romLoaded (s : State) (z n h c : Bool) : (s.setFlags z n h c).romLoaded = s.romLoaded := rfl
@[simp] theorem State.setFlags_config (s : State) (z n h c : Bool) : (s.setFlags z n h c).config = s.config := rfl

@[simp] theorem State.writePair_pc (s : State) (dd : DPair) (v : Word) : (s.writePair dd v).pc = s.pc := by cases dd <;> rfl
@[simp] theorem State.writePair_status (s : State) (dd : DPair) (v : Word) : (s.writePair dd v).status = s.status := by cases dd <;> rfl
@[simp] theorem State.writePair_stopRequest (s : State) (dd : DPair) (v : Word) : (s.writePair dd v).stopRequest = s.stopRequest := by cases dd <;> rfl
@[simp] theorem State.writePair_mem (s : State) (dd : DPair) (v : Word) : (s.writePair dd v).mem = s.mem := by cases dd <;> rfl
@[simp] theorem State.writePair_romLoaded (s : State) (dd : DPair) (v : Word) : (s.writePair dd v).romLoaded = s.romLoaded := by cases dd <;> rfl
@[simp] theorem State.writePair_config (s : State) (dd : DPair) (v : Word) : (s.writePair dd v).config = s.config := by cases dd <;> rfl

@[simp] theorem State.writeStackPair_sp (s : State) (qq : QPair) (v : Word) : (s.writeStackPair qq v).sp = s.sp := by cases qq <;> rfl
@[simp] theorem State.writeStackPair_pc (s : State) (qq : QPair) (v : Word) : (s.writeStackPair qq v).pc = s.pc := by cases qq <;> rfl
@[simp] theorem State.writeStackPair_status (s : State) (qq : QPair) (v : Word) : (s.writeStackPair qq v).status = s.status := by cases qq <;> rfl
@[simp] theorem State.writeStackPair_stopRequest (s : State) (qq : QPair) (v : Word) : (s.writeStackPair qq v).stopRequest = s.stopRequest := by cases qq <;> rfl
@[simp] theorem State.writeStackPair_mem (s : State) (qq : QPair) (v : Word) : (s.writeStackPair qq v).mem = s.mem := by cases qq <;> rfl
@[simp] theorem State.writeStackPair_romLoaded (s : State) (qq : QPair) (v : Word) : (s.writeStackPair qq v).romLoaded = s.romLoaded := by cases qq <;> rfl
@[simp] theorem State.writeStackPair_config (s : State) (qq : QPair) (v : Word) : (s.writeStackPair qq v).config = s.config := by cases qq <;> rfl

@[simp] theorem requestStop_regs (s : State) : (requestStop s).regs = s.regs := rfl
@[simp] theorem requestStop_sp (s : State) : (requestStop s).sp = s.sp := rfl
@[simp] theorem requestStop_pc (s : State) : (requestStop s).pc = s.pc := rfl
@[simp] theorem requestStop_status (s : State) : (requestStop s).status = s.status := rfl
@[simp] theorem requestStop_stopRequest (s : State) : (requestStop s).stopRequest = true := rfl
@[simp] theorem requestStop_mem (s : State) : (requestStop s).mem = s.mem := rfl
@[simp] theorem requestStop_romLoaded (s : State) : (requestStop s).romLoaded = s.romLoaded := rfl
@[simp] theorem requestStop_config (s : State) : (requestStop s).config = s.config := rfl

@[simp] theorem beforeStep_regs (raise : Bool) (s : State) : (beforeStep raise s).regs = s.regs := by cases raise <;> rfl
@[simp] theorem beforeStep_sp (raise : Bool) (s : State) : (beforeStep raise s).sp = s.sp := by cases raise <;> rfl
@[simp] theorem beforeStep_pc (raise : Bool) (s : State) : (beforeStep raise s).pc = s.pc := by cases raise <;> rfl
@[simp] theorem beforeStep_status (raise : Bool) (s : State) : (beforeStep raise s).status = s.status := by cases raise <;> rfl
@[simp] theorem beforeStep_stopRequest (raise : Bool) (s : State) :
    (beforeStep raise s).stopRequest = (raise || s.stopRequest) := by cases raise <;> rfl
@[simp] theorem beforeStep_mem (raise : Bool) (s : State) : (beforeStep raise s).mem = s.mem := by cases raise <;> rfl
@[simp] theorem beforeStep_romLoaded (raise : Bool) (s : State) : (beforeStep raise s).romLoaded = s.romLoaded := by cases raise <;> rfl
@[simp] theorem beforeStep_config (raise : Bool) (s : State) : (beforeStep raise s).config = s.config := by cases raise <;> rfl

@[simp] theorem State.construct_regs (policy : RomWritePolicy) : (State.construct policy).regs = RegFile.reset := rfl
@[simp] theorem State.construct_sp (policy : RomWritePolicy) : (State.construct policy).sp = 0xFFFE#16 := rfl
@[simp] theorem State.construct_pc (policy : RomWritePolicy) : (State.construct policy).pc = 0x0100#16 := rfl
@[simp] theorem State.construct_status (policy : RomWritePolicy) : (State.construct policy).status = .running := rfl
@[simp] theorem State.construct_stopRequest (policy : RomWritePolicy) : (State.construct policy).stopRequest = false := rfl
@[simp] theorem State.construct_mem (policy : RomWritePolicy) : (State.construct policy).mem = [] := rfl
@[simp] theorem State.construct_romLoaded (policy : RomWritePolicy) : (State.construct policy).romLoaded = false := rfl
@[simp] theorem State.construct_config (policy : RomWritePolicy) : (State.construct policy).config = { romWritePolicy := policy } := rfl

@[simp] theorem takeFault_regs (s : State) (r : FaultRecord) : (takeFault s r).regs = s.regs := rfl
@[simp] theorem takeFault_sp (s : State) (r : FaultRecord) : (takeFault s r).sp = s.sp := rfl
@[simp] theorem takeFault_pc (s : State) (r : FaultRecord) : (takeFault s r).pc = s.pc := rfl
@[simp] theorem takeFault_status (s : State) (r : FaultRecord) : (takeFault s r).status = .faulted r := rfl
@[simp] theorem takeFault_stopRequest (s : State) (r : FaultRecord) : (takeFault s r).stopRequest = s.stopRequest := rfl
@[simp] theorem takeFault_mem (s : State) (r : FaultRecord) : (takeFault s r).mem = s.mem := rfl
@[simp] theorem takeFault_romLoaded (s : State) (r : FaultRecord) : (takeFault s r).romLoaded = s.romLoaded := rfl
@[simp] theorem takeFault_config (s : State) (r : FaultRecord) : (takeFault s r).config = s.config := rfl

/-! ## Reading back the registers -/

@[simp] theorem RegFile.read_write_same (rf : RegFile) (r : Reg) (v : Byte) : (rf.write r v).read r = v := by
  cases r <;> rfl

theorem RegFile.read_write_ne (rf : RegFile) (r q : Reg) (v : Byte) (h : q ≠ r) :
    (rf.write r v).read q = rf.read q := by
  cases r <;> cases q <;> first | rfl | exact absurd rfl h

@[simp] theorem RegFile.write_f (rf : RegFile) (r : Reg) (v : Byte) : (rf.write r v).f = rf.f := by cases r <;> rfl

@[simp] theorem RegFile.read_setFlags (rf : RegFile) (z n h c : Bool) (r : Reg) :
    (rf.setFlags z n h c).read r = rf.read r := by
  cases r <;> rfl

@[simp] theorem RegFile.write_read_same (rf : RegFile) (r : Reg) : rf.write r (rf.read r) = rf := by cases r <;> rfl

@[simp] theorem State.writeReg_readReg (s : State) (r : Reg) (v : Byte) : (s.writeReg r v).readReg r = v := by
  simp [State.readReg]

@[simp] theorem State.setFlags_readReg (s : State) (z n h c : Bool) (r : Reg) :
    (s.setFlags z n h c).readReg r = s.readReg r := by
  simp [State.readReg]

@[simp] theorem State.setPc_readReg (s : State) (v : Word) (r : Reg) : (s.setPc v).readReg r = s.readReg r := rfl

@[simp] theorem State.setSp_readReg (s : State) (v : Word) (r : Reg) : (s.setSp v).readReg r = s.readReg r := rfl

@[simp] theorem State.setMem_readReg (s : State) (m : Memory) (r : Reg) : (s.setMem m).readReg r = s.readReg r := rfl

/-! ## The flags -/

theorem packFlags_bits : ∀ (z n h c : Bool) (low : BitVec 4),
    (packFlags z n h c low).getLsbD 7 = z ∧ (packFlags z n h c low).getLsbD 6 = n ∧
    (packFlags z n h c low).getLsbD 5 = h ∧ (packFlags z n h c low).getLsbD 4 = c ∧
    packFlags z n h c low &&& 0x0F#8 = low.setWidth 8 := by
  decide

@[simp] theorem RegFile.setFlags_flagZ (rf : RegFile) (z n h c : Bool) : (rf.setFlags z n h c).flagZ = z :=
  (packFlags_bits z n h c _).1

@[simp] theorem RegFile.setFlags_flagN (rf : RegFile) (z n h c : Bool) : (rf.setFlags z n h c).flagN = n :=
  (packFlags_bits z n h c _).2.1

@[simp] theorem RegFile.setFlags_flagH (rf : RegFile) (z n h c : Bool) : (rf.setFlags z n h c).flagH = h :=
  (packFlags_bits z n h c _).2.2.1

@[simp] theorem RegFile.setFlags_flagC (rf : RegFile) (z n h c : Bool) : (rf.setFlags z n h c).flagC = c :=
  (packFlags_bits z n h c _).2.2.2.1

/-- A flag update leaves F[3:0] as it was (10_state.md R42). -/
theorem low_nibble_of_byte : ∀ f : Byte, (f.extractLsb' 0 4).setWidth 8 = f &&& 0x0F#8 := by decide

@[simp] theorem RegFile.setFlags_low (rf : RegFile) (z n h c : Bool) :
    (rf.setFlags z n h c).f &&& 0x0F#8 = rf.f &&& 0x0F#8 :=
  ((packFlags_bits z n h c _).2.2.2.2).trans (low_nibble_of_byte rf.f)

/-! ## Halves of a word -/

theorem wordOf_toNat (hi lo : Byte) : (wordOf hi lo).toNat = hi.toNat * 256 + lo.toNat := by
  have h1 := hi.isLt
  have h2 := lo.isLt
  simp only [wordOf, BitVec.toNat_ofNat]
  omega

theorem hiByte_toNat (w : Word) : (hiByte w).toNat = w.toNat / 256 := by
  have h := w.isLt
  simp only [hiByte, BitVec.extractLsb'_toNat, Nat.shiftRight_eq_div_pow]
  omega

theorem loByte_toNat (w : Word) : (loByte w).toNat = w.toNat % 256 := by
  simp [loByte, BitVec.extractLsb'_toNat]

@[simp] theorem hiByte_wordOf (hi lo : Byte) : hiByte (wordOf hi lo) = hi := by
  have h2 := lo.isLt
  apply BitVec.eq_of_toNat_eq
  rw [hiByte_toNat, wordOf_toNat]
  omega

@[simp] theorem loByte_wordOf (hi lo : Byte) : loByte (wordOf hi lo) = lo := by
  have h2 := lo.isLt
  apply BitVec.eq_of_toNat_eq
  rw [loByte_toNat, wordOf_toNat]
  omega

@[simp] theorem wordOf_hi_lo (w : Word) : wordOf (hiByte w) (loByte w) = w := by
  apply BitVec.eq_of_toNat_eq
  rw [wordOf_toNat, hiByte_toNat, loByte_toNat]
  omega

@[simp] theorem State.readPair_writePair (s : State) (dd : DPair) (v : Word) : (s.writePair dd v).readPair dd = v := by
  cases dd <;> simp [State.readPair, State.writePair]

/-- Every pair but AF reads back what was written; AF loses the low nibble (10_state.md R44). -/
theorem State.readStackPair_writeStackPair (s : State) (qq : QPair) (v : Word) (h : qq ≠ .AF) :
    (s.writeStackPair qq v).readStackPair qq = v := by
  cases qq <;> simp_all [State.readStackPair, State.writeStackPair]

end Sys2Proof.Machine
end

