-- ==== Sys2Proof/Laws/Ops.lean ====
section
/-! SUPPORT. Operation laws: for each shared operation, once, what it can do. A prover cites these and does not unfold
the operation. -/

namespace Sys2Proof.Machine

/-! ## Addresses -/

theorem u16_toNat (v : Int) (h : 0 ≤ v ∧ v ≤ 0xFFFF) : ((u16 v).toNat : Int) = v := by
  unfold u16
  rw [BitVec.toNat_ofInt]
  omega

theorem u16_natCast (n : Nat) : u16 (n : Int) = BitVec.ofNat 16 n := by
  apply BitVec.eq_of_toNat_eq
  unfold u16
  rw [BitVec.toNat_ofInt, BitVec.toNat_ofNat]
  omega

@[simp] theorem u16_toNat_word (w : Word) : u16 (w.toNat : Int) = w := by
  rw [u16_natCast, BitVec.ofNat_toNat, BitVec.setWidth_eq]

theorem u16_add (w : Word) (k : Nat) : u16 ((w.toNat : Int) + k) = w + BitVec.ofNat 16 k := by
  have : ((w.toNat : Int) + k) = ((w.toNat + k : Nat) : Int) := by push_cast; rfl
  rw [this, u16_natCast]
  apply BitVec.eq_of_toNat_eq
  simp [BitVec.toNat_add]

/-- chk in range is the address itself (00_scope.md R19). -/
theorem chk_ok (s : State) (v : Int) (k : Access) (h : 0 ≤ v ∧ v ≤ 0xFFFF) : chk s v k = .ok (u16 v) := by
  simp only [chk, h, and_self, if_true]

/-- chk out of range is a memory fault at the value mod 65536 (00_scope.md R19). -/
theorem chk_error (s : State) (v : Int) (k : Access) (h : ¬(0 ≤ v ∧ v ≤ 0xFFFF)) :
    chk s v k = .error (.memoryFault s.pc (u16 v) k) := by
  simp only [chk, h, if_false]

theorem chk_ok_iff {s : State} {v : Int} {k : Access} {a : Word} :
    chk s v k = .ok a ↔ (0 ≤ v ∧ v ≤ 0xFFFF) ∧ a = u16 v := by
  by_cases h : 0 ≤ v ∧ v ≤ 0xFFFF
  · rw [chk_ok s v k h]
    simp [h, eq_comm]
  · rw [chk_error s v k h]
    simp [h]

theorem chk_error_iff {s : State} {v : Int} {k : Access} {r : FaultRecord} :
    chk s v k = .error r ↔ ¬(0 ≤ v ∧ v ≤ 0xFFFF) ∧ r = .memoryFault s.pc (u16 v) k := by
  by_cases h : 0 ≤ v ∧ v ≤ 0xFFFF
  · rw [chk_ok s v k h]
    simp [h]
  · rw [chk_error s v k h]
    simp [h, eq_comm]

/-! ## Bytes on the bus -/

theorem readU8_ok (s : State) (a : Word) (h : readable a) : readU8 s a = .ok (s.mem.read a.toNat) := by
  unfold readU8
  cases hk : (regionOf a).kind <;> simp_all

theorem readU8_unmapped (s : State) (a : Word) (h : (regionOf a).kind = .unmapped) :
    readU8 s a = .error (.memoryFault s.pc a .read) := by
  simp [readU8, h]

theorem readU8_ok_iff {s : State} {a : Word} {v : Byte} :
    readU8 s a = .ok v ↔ readable a ∧ v = s.mem.read a.toNat := by
  by_cases h : readable a
  · rw [readU8_ok s a h]
    simp [h, eq_comm]
  · rw [readU8_unmapped s a (by simpa using h)]
    simp [h]

theorem writeU8_storage (s : State) (a : Word) (v : Byte) (h : storable a) :
    writeU8 s a v = .ok (s.setMem (s.mem.write a.toNat v)) := by
  simp [writeU8, h]

theorem writeU8_unmapped (s : State) (a : Word) (v : Byte) (h : (regionOf a).kind = .unmapped) :
    writeU8 s a v = .error (.memoryFault s.pc a .write) := by
  simp [writeU8, h]

theorem writeU8_rom_ignore (s : State) (a : Word) (v : Byte) (h : (regionOf a).kind = .rom)
    (hp : s.config.romWritePolicy = .ignore) : writeU8 s a v = .ok s := by
  simp [writeU8, h, hp]

theorem writeU8_rom_fault (s : State) (a : Word) (v : Byte) (h : (regionOf a).kind = .rom)
    (hp : s.config.romWritePolicy = .fault) : writeU8 s a v = .error (.memoryFault s.pc a .write) := by
  simp [writeU8, h, hp]

/-- What a byte write that succeeds does: it stores the byte, or, in ROM, nothing (20_memory.md R82, R76). -/
theorem writeU8_cases {s t : State} {a : Word} {v : Byte} (h : writeU8 s a v = .ok t) :
    (storable a ∧ t = s.setMem (s.mem.write a.toNat v)) ∨
    ((regionOf a).kind = .rom ∧ s.config.romWritePolicy = .ignore ∧ t = s) := by
  unfold writeU8 at h
  split at h
  · cases h
  · split at h
    · exact .inr ⟨‹_›, ‹_›, (Except.ok.inj h).symm⟩
    · cases h
  · exact .inl ⟨‹_›, (Except.ok.inj h).symm⟩

/-- The record of a byte write that faults names the instruction, the address and a write (20_memory.md R82). -/
theorem writeU8_error {s : State} {a : Word} {v : Byte} {r : FaultRecord} (h : writeU8 s a v = .error r) :
    r = .memoryFault s.pc a .write := by
  unfold writeU8 at h
  split at h
  · exact (Except.error.inj h).symm
  · split at h
    · cases h
    · exact (Except.error.inj h).symm
  · cases h

/-- A byte write that is accepted stores the byte where there is storage (20_memory.md R82, R76). -/
theorem writeU8_ok (s : State) (a : Word) (v : Byte) (h : acceptsWrite s a) :
    writeU8 s a v = .ok (s.setMem (memoryAfter s.mem a v)) := by
  rcases h with h | ⟨h, hp⟩
  · rw [writeU8_storage s a v h, memoryAfter_storable s.mem v h]
  · rw [writeU8_rom_ignore s a v h hp, memoryAfter_rom s.mem v (by rw [storable, h]; exact RegionKind.noConfusion)]
    rfl

/-- A byte write that is not accepted faults at its address (20_memory.md R82, R76). -/
theorem writeU8_not_accepted (s : State) (a : Word) (v : Byte) (h : ¬acceptsWrite s a) :
    writeU8 s a v = .error (.memoryFault s.pc a .write) := by
  cases hk : (regionOf a).kind with
  | unmapped => exact writeU8_unmapped s a v hk
  | storage => exact absurd (.inl hk) h
  | rom =>
    cases hp : s.config.romWritePolicy with
    | ignore => exact absurd (.inr ⟨hk, hp⟩) h
    | fault => exact writeU8_rom_fault s a v hk hp

theorem writeU8_ok_iff {s t : State} {a : Word} {v : Byte} :
    writeU8 s a v = .ok t ↔ acceptsWrite s a ∧ t = s.setMem (memoryAfter s.mem a v) := by
  by_cases h : acceptsWrite s a
  · rw [writeU8_ok s a v h]
    simp [h, eq_comm]
  · rw [writeU8_not_accepted s a v h]
    simp [h]

theorem readU8_error {s : State} {a : Word} {r : FaultRecord} (h : readU8 s a = .error r) :
    r = .memoryFault s.pc a .read := by
  unfold readU8 at h
  split at h
  · exact (Except.error.inj h).symm
  · cases h
  · cases h

/-! ## Sequencing -/

/-- A sequence that succeeds is its two parts. -/
theorem bind_ok {ε α β : Type} {x : Except ε α} {f : α → Except ε β} {b : β} (h : (x >>= f) = .ok b) :
    ∃ a, x = .ok a ∧ f a = .ok b := by
  cases x with
  | error e => cases h
  | ok a => exact ⟨a, rfl, h⟩

/-- A sequence that faults does so in its first part or, that having succeeded, in its second. -/
theorem bind_error {ε α β : Type} {x : Except ε α} {f : α → Except ε β} {e : ε} (h : (x >>= f) = .error e) :
    x = .error e ∨ ∃ a, x = .ok a ∧ f a = .error e := by
  cases x with
  | error e' => exact .inl (by cases h; rfl)
  | ok a => exact .inr ⟨a, rfl, h⟩

@[simp] theorem ok_bind {ε α β : Type} (a : α) (f : α → Except ε β) : ((Except.ok a : Except ε α) >>= f) = f a := rfl

@[simp] theorem error_bind {ε α β : Type} (e : ε) (f : α → Except ε β) :
    ((Except.error e : Except ε α) >>= f) = .error e := rfl

/-! ## The next pc -/

theorem advance_ok (s : State) (l : Nat) (h : s.pc.toNat + l ≤ 0xFFFF) :
    advance s l = .ok (s.setPc (s.pc + BitVec.ofNat 16 l)) := by
  unfold advance
  rw [chk_ok s _ _ (by omega), ok_bind, u16_add]

theorem advance_error (s : State) (l : Nat) (h : 0xFFFF < s.pc.toNat + l) :
    advance s l = .error (.memoryFault s.pc (s.pc + BitVec.ofNat 16 l) .read) := by
  unfold advance
  rw [chk_error s _ _ (by omega), error_bind, u16_add]

/-- What the end of an instruction that transfers no control does (70_reset_and_hazards.md R256). -/
theorem advance_cases {s t : State} {l : Nat} (h : advance s l = .ok t) :
    s.pc.toNat + l ≤ 0xFFFF ∧ t = s.setPc (s.pc + BitVec.ofNat 16 l) := by
  by_cases hl : s.pc.toNat + l ≤ 0xFFFF
  · rw [advance_ok s l hl] at h
    exact ⟨hl, (Except.ok.inj h).symm⟩
  · rw [advance_error s l (by omega)] at h
    cases h

/-! ## Words on the bus and the stack -/

/-- What a word write that succeeds does: two byte writes, low byte first, inside the address space
(20_memory.md R83). -/
theorem writeU16_cases {s t : State} {a v : Word} (h : writeU16 s a v = .ok t) :
    a.toNat + 1 ≤ 0xFFFF ∧ ∃ s1, writeU8 s a (loByte v) = .ok s1 ∧ writeU8 s1 (a + 1#16) (hiByte v) = .ok t := by
  obtain ⟨s1, h1, h2⟩ := bind_ok h
  obtain ⟨a1, h3, h4⟩ := bind_ok h2
  obtain ⟨hr, rfl⟩ := chk_ok_iff.mp h3
  have he : u16 ((a.toNat : Int) + 1) = a + 1#16 := u16_add a 1
  rw [he] at h4
  exact ⟨by omega, s1, h1, h4⟩

/-- What a word read that succeeds gives: two readable bytes, the low one at the lower address (20_memory.md R81). -/
theorem readU16_cases {s : State} {a v : Word} (h : readU16 s a = .ok v) :
    a.toNat + 1 ≤ 0xFFFF ∧ readable a ∧ readable (a + 1#16) ∧
    v = wordOf (s.mem.read (a + 1#16).toNat) (s.mem.read a.toNat) := by
  obtain ⟨lo, h1, h2⟩ := bind_ok h
  obtain ⟨a1, h3, h4⟩ := bind_ok h2
  obtain ⟨hi, h5, h6⟩ := bind_ok h4
  obtain ⟨hr, rfl⟩ := chk_ok_iff.mp h3
  have he : u16 ((a.toNat : Int) + 1) = a + 1#16 := u16_add a 1
  rw [he] at h5
  obtain ⟨hl, rfl⟩ := readU8_ok_iff.mp h1
  obtain ⟨hh, rfl⟩ := readU8_ok_iff.mp h5
  exact ⟨by omega, hl, hh, (Except.ok.inj h6).symm⟩

theorem readU16_ok (s : State) (a : Word) (h : a.toNat + 1 ≤ 0xFFFF) (h1 : readable a) (h2 : readable (a + 1#16)) :
    readU16 s a = .ok (wordOf (s.mem.read (a + 1#16).toNat) (s.mem.read a.toNat)) := by
  have he : u16 ((a.toNat : Int) + 1) = a + 1#16 := u16_add a 1
  unfold readU16
  rw [readU8_ok s a h1, ok_bind, chk_ok s _ _ (by omega), ok_bind, he, readU8_ok s _ h2, ok_bind]

theorem word_add_one_toNat (a : Word) (h : a.toNat + 1 ≤ 0xFFFF) : (a + 1#16).toNat = a.toNat + 1 := by
  rw [BitVec.toNat_add]
  simp
  omega

theorem writeU16_storage (s : State) (a v : Word) (h : a.toNat + 1 ≤ 0xFFFF) (h1 : storable a)
    (h2 : storable (a + 1#16)) :
    writeU16 s a v = .ok (s.setMem ((s.mem.write a.toNat (loByte v)).write (a + 1#16).toNat (hiByte v))) := by
  have he : u16 ((a.toNat : Int) + 1) = a + 1#16 := u16_add a 1
  unfold writeU16
  rw [writeU8_storage s a _ h1, ok_bind, chk_ok s _ _ (by omega), ok_bind, he, writeU8_storage _ _ _ h2]
  rfl

/-- What a push that succeeds does: SP is at least 2, the word is written at SP − 2, SP is lowered by 2
(43_stack.md R202). -/
theorem push16_cases {s t : State} {v : Word} (h : push16 s v = .ok t) :
    2 ≤ s.sp.toNat ∧ ∃ s1, writeU16 s (u16 (pushAddress s)) v = .ok s1 ∧ t = s1.setSp (u16 (pushAddress s)) := by
  obtain ⟨a, h1, h2⟩ := bind_ok h
  obtain ⟨s1, h3, h4⟩ := bind_ok h2
  obtain ⟨hr, rfl⟩ := chk_ok_iff.mp h1
  exact ⟨by unfold pushAddress at hr; omega, s1, h3, (Except.ok.inj h4).symm⟩

/-- What a pop that succeeds does (43_stack.md R202). -/
theorem pop16_cases {s t : State} {v : Word} (h : pop16 s = .ok (v, t)) :
    s.sp.toNat + 2 ≤ 0xFFFF ∧ readU16 s s.sp = .ok v ∧ t = s.setSp (s.sp + 2#16) := by
  obtain ⟨w, h1, h2⟩ := bind_ok h
  obtain ⟨a, h3, h4⟩ := bind_ok h2
  obtain ⟨hr, rfl⟩ := chk_ok_iff.mp h3
  have he : u16 ((s.sp.toNat : Int) + 2) = s.sp + 2#16 := u16_add s.sp 2
  rw [he] at h4
  injection h4 with h5
  injection h5 with h6 h7
  exact ⟨by omega, h6 ▸ h1, h7.symm⟩

/-- A sum that stays in the address space does not wrap. -/
theorem word_add_toNat (w : Word) (n : Nat) (h : w.toNat + n ≤ 0xFFFF) : (w + BitVec.ofNat 16 n).toNat = w.toNat + n := by
  rw [BitVec.toNat_add, BitVec.toNat_ofNat]
  omega

/-- The two stack bytes a push writes, where SP is at least 2 (43_stack.md R202). -/
theorem push_addresses {s : State} (h : 2 ≤ s.sp.toNat) :
    u16 (pushAddress s) = s.sp - 2 ∧ (s.sp - 2).toNat = s.sp.toNat - 2 ∧ s.sp - 2 + 1#16 = s.sp - 1 ∧
    (s.sp - 1).toNat = s.sp.toNat - 1 := by
  have hlt := s.sp.isLt
  have h2 : (s.sp - 2).toNat = s.sp.toNat - 2 := by rw [BitVec.toNat_sub]; simp; omega
  have h1 : (s.sp - 1).toNat = s.sp.toNat - 1 := by rw [BitVec.toNat_sub]; simp; omega
  refine ⟨BitVec.eq_of_toNat_eq ?_, h2, BitVec.eq_of_toNat_eq ?_, h1⟩
  · have := u16_toNat (pushAddress s) (by unfold pushAddress; omega)
    unfold pushAddress at *
    omega
  · rw [word_add_one_toNat _ (by omega)]
    omega

/-- The second stack byte a push writes, as `Form.stores` computes it (43_stack.md R202). -/
theorem push_second_address {s : State} (h : 2 ≤ s.sp.toNat) : u16 (pushAddress s + 1) = s.sp - 1 := by
  obtain ⟨-, -, -, hn⟩ := push_addresses h
  have hlt := s.sp.isLt
  have := u16_toNat (pushAddress s + 1) (by unfold pushAddress; omega)
  apply BitVec.eq_of_toNat_eq
  unfold pushAddress at *
  omega

/-- A word write both of whose bytes are accepted (20_memory.md R83). -/
theorem writeU16_ok (s : State) (a v : Word) (h : a.toNat + 1 ≤ 0xFFFF) (h1 : acceptsWrite s a)
    (h2 : acceptsWrite s (a + 1#16)) :
    writeU16 s a v =
      .ok (s.setMem (memoryAfter (memoryAfter s.mem a (loByte v)) (a + 1#16) (hiByte v))) := by
  have he : u16 ((a.toNat : Int) + 1) = a + 1#16 := u16_add a 1
  unfold writeU16
  rw [writeU8_ok _ _ _ h1, ok_bind, chk_ok _ _ _ (by omega), ok_bind, he,
    writeU8_ok (s.setMem (memoryAfter s.mem a (loByte v))) _ _ h2]
  rfl

/-- A push both of whose bytes are accepted (43_stack.md R202). -/
theorem push16_ok (s : State) (v : Word) (h : 2 ≤ s.sp.toNat) (h1 : acceptsWrite s (s.sp - 2))
    (h2 : acceptsWrite s (s.sp - 1)) :
    push16 s v =
      .ok ((s.setMem (memoryAfter (memoryAfter s.mem (s.sp - 2) (loByte v)) (s.sp - 1) (hiByte v))).setSp
        (s.sp - 2)) := by
  have hlt := s.sp.isLt
  obtain ⟨ha, hn, hb, -⟩ := push_addresses h
  unfold push16
  rw [chk_ok _ _ _ (by unfold pushAddress; omega), ok_bind, ha,
    writeU16_ok _ _ _ (by omega) h1 (by rw [hb]; exact h2), ok_bind, hb]

/-- A pop both of whose bytes are readable (43_stack.md R202). -/
theorem pop16_ok (s : State) (h : s.sp.toNat + 2 ≤ 0xFFFF) (h1 : readable s.sp) (h2 : readable (s.sp + 1#16)) :
    pop16 s = .ok (wordOf (s.mem.read (s.sp.toNat + 1)) (s.mem.read s.sp.toNat), s.setSp (s.sp + 2#16)) := by
  have he : u16 ((s.sp.toNat : Int) + 2) = s.sp + 2#16 := u16_add s.sp 2
  unfold pop16
  rw [readU16_ok _ _ (by omega) h1 h2, ok_bind, chk_ok _ _ _ (by omega), ok_bind, he,
    word_add_one_toNat _ (by omega)]

/-! ## The end of an instruction -/

/-- The next state of an instruction: its result, or the state before it with a fault taken (60_exceptions.md R226). -/
theorem commit_cases {s t : State} {x : Except FaultRecord State} (h : commit s x = .next t) :
    x = .ok t ∨ ∃ r, x = .error r ∧ t = takeFault s r := by
  cases x with
  | ok s' => injection h with h; exact .inl (congrArg Except.ok h)
  | error r => injection h with h; exact .inr ⟨r, rfl, h.symm⟩

@[simp] theorem settle_ok (s t : State) : settle s (.ok t) = t := rfl

@[simp] theorem settle_error (s : State) (r : FaultRecord) : settle s (.error r) = takeFault s r := rfl

@[simp] theorem commit_ok (s t : State) : commit s (.ok t) = .next t := rfl

@[simp] theorem commit_error (s : State) (r : FaultRecord) : commit s (.error r) = .next (takeFault s r) := rfl

end Sys2Proof.Machine
end

