-- ==== Sys2Proof/Laws/Form.lean ====
section
/-! SUPPORT. Form laws: rows of the opcode table and forms are the same things, and exec of a row is the operation of
its form, so that a claim over the 231 rows is a claim over the forms. -/

namespace Sys2Proof

theorem Instr.toInstr_form (i : Instr) : i.form.toInstr = i := by cases i <;> rfl

theorem Form.form_toInstr (f : Form) : f.toInstr.form = f := by
  cases f with
  | ldRegReg d s => cases d <;> cases s <;> rfl
  | ldRegMem d => cases d <;> rfl
  | ldMemReg s => cases s <;> rfl
  | ldRegImm d n => cases d <;> rfl
  | ldPairImm dd nn => cases dd <;> rfl
  | alu op s => cases op <;> cases s <;> first | rfl | (rename_i r; cases r <;> rfl)
  | incReg r => cases r <;> rfl
  | decReg r => cases r <;> rfl
  | incPair dd => cases dd <;> rfl
  | decPair dd => cases dd <;> rfl
  | jrCond cc e => cases cc <;> rfl
  | push qq => cases qq <;> rfl
  | pop qq => cases qq <;> rfl
  | res b r => fin_cases b <;> cases r <;> rfl
  | _ => rfl

@[simp] theorem Form.toInstr_form (f : Form) : f.toInstr.form = f := f.form_toInstr

namespace Machine

/-- An address an instruction stores to is that of a byte it stores. -/
theorem mem_storesTo {f : Form} {s : State} {a : Word} : a ∈ f.storesTo s ↔ ∃ v, (a, v) ∈ f.stores s := by
  simp [Form.storesTo]

/-- The operation of an accumulator instruction. -/
def aluEffect : AluOp → Src → State → Except FaultRecord State
  | .add => addAccumulator
  | .sub => subAccumulator
  | .and => andAccumulator
  | .xor => xorAccumulator
  | .or => orAccumulator
  | .cp => cpAccumulator

/-- The operation of a form. -/
def effect : Form → State → Except FaultRecord State
  | .ldRegReg d r => ldRegReg d r
  | .ldRegMem d => ldRegMem d
  | .ldMemReg r => ldMemReg r
  | .ldRegImm d n => ldRegImm d n
  | .ldPairImm dd nn => ldPairImm dd nn
  | .ldMemImm n => ldMemImm n
  | .ldADirect nn => ldADirect nn
  | .ldDirectA nn => ldDirectA nn
  | .ldhAOffset n => ldhAOffset n
  | .ldhOffsetA n => ldhOffsetA n
  | .ldAIndexC => ldAIndexC
  | .ldIndexCA => ldIndexCA
  | .alu op src => aluEffect op src
  | .incReg r => incReg r
  | .decReg r => decReg r
  | .incPair dd => incPair dd
  | .decPair dd => decPair dd
  | .jp nn => jp nn
  | .jrCond cc e => jrCond cc e
  | .jr e => jr e
  | .call nn => call nn
  | .ret => ret
  | .push qq => push qq
  | .pop qq => pop qq
  | .res b r => res b r
  | .nop => nop
  | .di => di

/-- exec of a row commits the operation of its form. -/
theorem exec_eq_commit (i : Instr) (s : State) : exec i s = commit s (effect i.form s) := by cases i <;> rfl

/-- exec of the row of a form commits the form's operation. -/
theorem exec_toInstr (f : Form) (s : State) : exec f.toInstr s = commit s (effect f s) := by
  rw [exec_eq_commit, Form.form_toInstr]

/-- What exec can do: the operation of the form succeeds, or its fault is taken in the state before. -/
theorem exec_cases {i : Instr} {s t : State} (h : exec i s = .next t) :
    effect i.form s = .ok t ∨ ∃ r, effect i.form s = .error r ∧ t = takeFault s r :=
  commit_cases ((exec_eq_commit i s).symm.trans h)

/-- exec always answers a next state. -/
theorem exec_next (i : Instr) (s : State) : ∃ t, exec i s = .next t := by
  rw [exec_eq_commit]
  cases effect i.form s with
  | ok t => exact ⟨t, rfl⟩
  | error r => exact ⟨takeFault s r, rfl⟩

end Machine

end Sys2Proof
end

