-- ==== Sys2Proof/Laws/PerInstr.lean ====
section
/-! SUPPORT. PerInstr: facts about the instruction as syntax, one lemma per constructor of Instr. -/

/-- A row's encoding has as many bytes as its length, one to three (30_encoding.md R111, R129). -/
def Sys2Proof.Laws.EncodedLength.Statement (i : Sys2Proof.Instr) : Prop :=
  (Sys2Proof.encode i).length = i.length ∧ 1 ≤ i.length ∧ i.length ≤ 3

namespace Sys2Proof.Laws.EncodedLength

/-- The proof every row takes: both lengths are the same numeral. -/
theorem of_eq {i : Instr} {n : Nat} (h : (encode i).length = n) (hl : i.length = n) (h1 : 1 ≤ n) (h3 : n ≤ 3) :
    Statement i := ⟨h.trans hl.symm, hl.symm ▸ h1, hl.symm ▸ h3⟩

theorem ld_B_B : Statement (.ld_B_B) := of_eq (n := 1) rfl rfl (by decide) (by decide)
theorem ld_B_C : Statement (.ld_B_C) := of_eq (n := 1) rfl rfl (by decide) (by decide)
theorem ld_B_D : Statement (.ld_B_D) := of_eq (n := 1) rfl rfl (by decide) (by decide)
theorem ld_B_E : Statement (.ld_B_E) := of_eq (n := 1) rfl rfl (by decide) (by decide)
theorem ld_B_H : Statement (.ld_B_H) := of_eq (n := 1) rfl rfl (by decide) (by decide)
theorem ld_B_L : Statement (.ld_B_L) := of_eq (n := 1) rfl rfl (by decide) (by decide)
theorem ld_B_mHL : Statement (.ld_B_mHL) := of_eq (n := 1) rfl rfl (by decide) (by decide)
theorem ld_B_A : Statement (.ld_B_A) := of_eq (n := 1) rfl rfl (by decide) (by decide)
theorem ld_C_B : Statement (.ld_C_B) := of_eq (n := 1) rfl rfl (by decide) (by decide)
theorem ld_C_C : Statement (.ld_C_C) := of_eq (n := 1) rfl rfl (by decide) (by decide)
theorem ld_C_D : Statement (.ld_C_D) := of_eq (n := 1) rfl rfl (by decide) (by decide)
theorem ld_C_E : Statement (.ld_C_E) := of_eq (n := 1) rfl rfl (by decide) (by decide)
theorem ld_C_H : Statement (.ld_C_H) := of_eq (n := 1) rfl rfl (by decide) (by decide)
theorem ld_C_L : Statement (.ld_C_L) := of_eq (n := 1) rfl rfl (by decide) (by decide)
theorem ld_C_mHL : Statement (.ld_C_mHL) := of_eq (n := 1) rfl rfl (by decide) (by decide)
theorem ld_C_A : Statement (.ld_C_A) := of_eq (n := 1) rfl rfl (by decide) (by decide)
theorem ld_D_B : Statement (.ld_D_B) := of_eq (n := 1) rfl rfl (by decide) (by decide)
theorem ld_D_C : Statement (.ld_D_C) := of_eq (n := 1) rfl rfl (by decide) (by decide)
theorem ld_D_D : Statement (.ld_D_D) := of_eq (n := 1) rfl rfl (by decide) (by decide)
theorem ld_D_E : Statement (.ld_D_E) := of_eq (n := 1) rfl rfl (by decide) (by decide)
theorem ld_D_H : Statement (.ld_D_H) := of_eq (n := 1) rfl rfl (by decide) (by decide)
theorem ld_D_L : Statement (.ld_D_L) := of_eq (n := 1) rfl rfl (by decide) (by decide)
theorem ld_D_mHL : Statement (.ld_D_mHL) := of_eq (n := 1) rfl rfl (by decide) (by decide)
theorem ld_D_A : Statement (.ld_D_A) := of_eq (n := 1) rfl rfl (by decide) (by decide)
theorem ld_E_B : Statement (.ld_E_B) := of_eq (n := 1) rfl rfl (by decide) (by decide)
theorem ld_E_C : Statement (.ld_E_C) := of_eq (n := 1) rfl rfl (by decide) (by decide)
theorem ld_E_D : Statement (.ld_E_D) := of_eq (n := 1) rfl rfl (by decide) (by decide)
theorem ld_E_E : Statement (.ld_E_E) := of_eq (n := 1) rfl rfl (by decide) (by decide)
theorem ld_E_H : Statement (.ld_E_H) := of_eq (n := 1) rfl rfl (by decide) (by decide)
theorem ld_E_L : Statement (.ld_E_L) := of_eq (n := 1) rfl rfl (by decide) (by decide)
theorem ld_E_mHL : Statement (.ld_E_mHL) := of_eq (n := 1) rfl rfl (by decide) (by decide)
theorem ld_E_A : Statement (.ld_E_A) := of_eq (n := 1) rfl rfl (by decide) (by decide)
theorem ld_H_B : Statement (.ld_H_B) := of_eq (n := 1) rfl rfl (by decide) (by decide)
theorem ld_H_C : Statement (.ld_H_C) := of_eq (n := 1) rfl rfl (by decide) (by decide)
theorem ld_H_D : Statement (.ld_H_D) := of_eq (n := 1) rfl rfl (by decide) (by decide)
theorem ld_H_E : Statement (.ld_H_E) := of_eq (n := 1) rfl rfl (by decide) (by decide)
theorem ld_H_H : Statement (.ld_H_H) := of_eq (n := 1) rfl rfl (by decide) (by decide)
theorem ld_H_L : Statement (.ld_H_L) := of_eq (n := 1) rfl rfl (by decide) (by decide)
theorem ld_H_mHL : Statement (.ld_H_mHL) := of_eq (n := 1) rfl rfl (by decide) (by decide)
theorem ld_H_A : Statement (.ld_H_A) := of_eq (n := 1) rfl rfl (by decide) (by decide)
theorem ld_L_B : Statement (.ld_L_B) := of_eq (n := 1) rfl rfl (by decide) (by decide)
theorem ld_L_C : Statement (.ld_L_C) := of_eq (n := 1) rfl rfl (by decide) (by decide)
theorem ld_L_D : Statement (.ld_L_D) := of_eq (n := 1) rfl rfl (by decide) (by decide)
theorem ld_L_E : Statement (.ld_L_E) := of_eq (n := 1) rfl rfl (by decide) (by decide)
theorem ld_L_H : Statement (.ld_L_H) := of_eq (n := 1) rfl rfl (by decide) (by decide)
theorem ld_L_L : Statement (.ld_L_L) := of_eq (n := 1) rfl rfl (by decide) (by decide)
theorem ld_L_mHL : Statement (.ld_L_mHL) := of_eq (n := 1) rfl rfl (by decide) (by decide)
theorem ld_L_A : Statement (.ld_L_A) := of_eq (n := 1) rfl rfl (by decide) (by decide)
theorem ld_mHL_B : Statement (.ld_mHL_B) := of_eq (n := 1) rfl rfl (by decide) (by decide)
theorem ld_mHL_C : Statement (.ld_mHL_C) := of_eq (n := 1) rfl rfl (by decide) (by decide)
theorem ld_mHL_D : Statement (.ld_mHL_D) := of_eq (n := 1) rfl rfl (by decide) (by decide)
theorem ld_mHL_E : Statement (.ld_mHL_E) := of_eq (n := 1) rfl rfl (by decide) (by decide)
theorem ld_mHL_H : Statement (.ld_mHL_H) := of_eq (n := 1) rfl rfl (by decide) (by decide)
theorem ld_mHL_L : Statement (.ld_mHL_L) := of_eq (n := 1) rfl rfl (by decide) (by decide)
theorem ld_mHL_A : Statement (.ld_mHL_A) := of_eq (n := 1) rfl rfl (by decide) (by decide)
theorem ld_A_B : Statement (.ld_A_B) := of_eq (n := 1) rfl rfl (by decide) (by decide)
theorem ld_A_C : Statement (.ld_A_C) := of_eq (n := 1) rfl rfl (by decide) (by decide)
theorem ld_A_D : Statement (.ld_A_D) := of_eq (n := 1) rfl rfl (by decide) (by decide)
theorem ld_A_E : Statement (.ld_A_E) := of_eq (n := 1) rfl rfl (by decide) (by decide)
theorem ld_A_H : Statement (.ld_A_H) := of_eq (n := 1) rfl rfl (by decide) (by decide)
theorem ld_A_L : Statement (.ld_A_L) := of_eq (n := 1) rfl rfl (by decide) (by decide)
theorem ld_A_mHL : Statement (.ld_A_mHL) := of_eq (n := 1) rfl rfl (by decide) (by decide)
theorem ld_A_A : Statement (.ld_A_A) := of_eq (n := 1) rfl rfl (by decide) (by decide)
theorem ld_B_n (n : Byte) : Statement (.ld_B_n n) := of_eq (n := 2) rfl rfl (by decide) (by decide)
theorem ld_C_n (n : Byte) : Statement (.ld_C_n n) := of_eq (n := 2) rfl rfl (by decide) (by decide)
theorem ld_D_n (n : Byte) : Statement (.ld_D_n n) := of_eq (n := 2) rfl rfl (by decide) (by decide)
theorem ld_E_n (n : Byte) : Statement (.ld_E_n n) := of_eq (n := 2) rfl rfl (by decide) (by decide)
theorem ld_H_n (n : Byte) : Statement (.ld_H_n n) := of_eq (n := 2) rfl rfl (by decide) (by decide)
theorem ld_L_n (n : Byte) : Statement (.ld_L_n n) := of_eq (n := 2) rfl rfl (by decide) (by decide)
theorem ld_mHL_n (n : Byte) : Statement (.ld_mHL_n n) := of_eq (n := 2) rfl rfl (by decide) (by decide)
theorem ld_A_n (n : Byte) : Statement (.ld_A_n n) := of_eq (n := 2) rfl rfl (by decide) (by decide)
theorem ld_BC_nn (nn : Word) : Statement (.ld_BC_nn nn) := of_eq (n := 3) rfl rfl (by decide) (by decide)
theorem ld_DE_nn (nn : Word) : Statement (.ld_DE_nn nn) := of_eq (n := 3) rfl rfl (by decide) (by decide)
theorem ld_HL_nn (nn : Word) : Statement (.ld_HL_nn nn) := of_eq (n := 3) rfl rfl (by decide) (by decide)
theorem ld_SP_nn (nn : Word) : Statement (.ld_SP_nn nn) := of_eq (n := 3) rfl rfl (by decide) (by decide)
theorem ld_A_mnn (nn : Word) : Statement (.ld_A_mnn nn) := of_eq (n := 3) rfl rfl (by decide) (by decide)
theorem ld_mnn_A (nn : Word) : Statement (.ld_mnn_A nn) := of_eq (n := 3) rfl rfl (by decide) (by decide)
theorem ldh_A_mn (n : Byte) : Statement (.ldh_A_mn n) := of_eq (n := 2) rfl rfl (by decide) (by decide)
theorem ldh_mn_A (n : Byte) : Statement (.ldh_mn_A n) := of_eq (n := 2) rfl rfl (by decide) (by decide)
theorem ld_A_mC : Statement (.ld_A_mC) := of_eq (n := 1) rfl rfl (by decide) (by decide)
theorem ld_mC_A : Statement (.ld_mC_A) := of_eq (n := 1) rfl rfl (by decide) (by decide)
theorem add_A_B : Statement (.add_A_B) := of_eq (n := 1) rfl rfl (by decide) (by decide)
theorem add_A_C : Statement (.add_A_C) := of_eq (n := 1) rfl rfl (by decide) (by decide)
theorem add_A_D : Statement (.add_A_D) := of_eq (n := 1) rfl rfl (by decide) (by decide)
theorem add_A_E : Statement (.add_A_E) := of_eq (n := 1) rfl rfl (by decide) (by decide)
theorem add_A_H : Statement (.add_A_H) := of_eq (n := 1) rfl rfl (by decide) (by decide)
theorem add_A_L : Statement (.add_A_L) := of_eq (n := 1) rfl rfl (by decide) (by decide)
theorem add_A_mHL : Statement (.add_A_mHL) := of_eq (n := 1) rfl rfl (by decide) (by decide)
theorem add_A_A : Statement (.add_A_A) := of_eq (n := 1) rfl rfl (by decide) (by decide)
theorem add_A_n (n : Byte) : Statement (.add_A_n n) := of_eq (n := 2) rfl rfl (by decide) (by decide)
theorem sub_B : Statement (.sub_B) := of_eq (n := 1) rfl rfl (by decide) (by decide)
theorem sub_C : Statement (.sub_C) := of_eq (n := 1) rfl rfl (by decide) (by decide)
theorem sub_D : Statement (.sub_D) := of_eq (n := 1) rfl rfl (by decide) (by decide)
theorem sub_E : Statement (.sub_E) := of_eq (n := 1) rfl rfl (by decide) (by decide)
theorem sub_H : Statement (.sub_H) := of_eq (n := 1) rfl rfl (by decide) (by decide)
theorem sub_L : Statement (.sub_L) := of_eq (n := 1) rfl rfl (by decide) (by decide)
theorem sub_mHL : Statement (.sub_mHL) := of_eq (n := 1) rfl rfl (by decide) (by decide)
theorem sub_A : Statement (.sub_A) := of_eq (n := 1) rfl rfl (by decide) (by decide)
theorem sub_n (n : Byte) : Statement (.sub_n n) := of_eq (n := 2) rfl rfl (by decide) (by decide)
theorem and_B : Statement (.and_B) := of_eq (n := 1) rfl rfl (by decide) (by decide)
theorem and_C : Statement (.and_C) := of_eq (n := 1) rfl rfl (by decide) (by decide)
theorem and_D : Statement (.and_D) := of_eq (n := 1) rfl rfl (by decide) (by decide)
theorem and_E : Statement (.and_E) := of_eq (n := 1) rfl rfl (by decide) (by decide)
theorem and_H : Statement (.and_H) := of_eq (n := 1) rfl rfl (by decide) (by decide)
theorem and_L : Statement (.and_L) := of_eq (n := 1) rfl rfl (by decide) (by decide)
theorem and_mHL : Statement (.and_mHL) := of_eq (n := 1) rfl rfl (by decide) (by decide)
theorem and_A : Statement (.and_A) := of_eq (n := 1) rfl rfl (by decide) (by decide)
theorem and_n (n : Byte) : Statement (.and_n n) := of_eq (n := 2) rfl rfl (by decide) (by decide)
theorem xor_B : Statement (.xor_B) := of_eq (n := 1) rfl rfl (by decide) (by decide)
theorem xor_C : Statement (.xor_C) := of_eq (n := 1) rfl rfl (by decide) (by decide)
theorem xor_D : Statement (.xor_D) := of_eq (n := 1) rfl rfl (by decide) (by decide)
theorem xor_E : Statement (.xor_E) := of_eq (n := 1) rfl rfl (by decide) (by decide)
theorem xor_H : Statement (.xor_H) := of_eq (n := 1) rfl rfl (by decide) (by decide)
theorem xor_L : Statement (.xor_L) := of_eq (n := 1) rfl rfl (by decide) (by decide)
theorem xor_mHL : Statement (.xor_mHL) := of_eq (n := 1) rfl rfl (by decide) (by decide)
theorem xor_A : Statement (.xor_A) := of_eq (n := 1) rfl rfl (by decide) (by decide)
theorem xor_n (n : Byte) : Statement (.xor_n n) := of_eq (n := 2) rfl rfl (by decide) (by decide)
theorem or_B : Statement (.or_B) := of_eq (n := 1) rfl rfl (by decide) (by decide)
theorem or_C : Statement (.or_C) := of_eq (n := 1) rfl rfl (by decide) (by decide)
theorem or_D : Statement (.or_D) := of_eq (n := 1) rfl rfl (by decide) (by decide)
theorem or_E : Statement (.or_E) := of_eq (n := 1) rfl rfl (by decide) (by decide)
theorem or_H : Statement (.or_H) := of_eq (n := 1) rfl rfl (by decide) (by decide)
theorem or_L : Statement (.or_L) := of_eq (n := 1) rfl rfl (by decide) (by decide)
theorem or_mHL : Statement (.or_mHL) := of_eq (n := 1) rfl rfl (by decide) (by decide)
theorem or_A : Statement (.or_A) := of_eq (n := 1) rfl rfl (by decide) (by decide)
theorem or_n (n : Byte) : Statement (.or_n n) := of_eq (n := 2) rfl rfl (by decide) (by decide)
theorem cp_B : Statement (.cp_B) := of_eq (n := 1) rfl rfl (by decide) (by decide)
theorem cp_C : Statement (.cp_C) := of_eq (n := 1) rfl rfl (by decide) (by decide)
theorem cp_D : Statement (.cp_D) := of_eq (n := 1) rfl rfl (by decide) (by decide)
theorem cp_E : Statement (.cp_E) := of_eq (n := 1) rfl rfl (by decide) (by decide)
theorem cp_H : Statement (.cp_H) := of_eq (n := 1) rfl rfl (by decide) (by decide)
theorem cp_L : Statement (.cp_L) := of_eq (n := 1) rfl rfl (by decide) (by decide)
theorem cp_mHL : Statement (.cp_mHL) := of_eq (n := 1) rfl rfl (by decide) (by decide)
theorem cp_A : Statement (.cp_A) := of_eq (n := 1) rfl rfl (by decide) (by decide)
theorem cp_n (n : Byte) : Statement (.cp_n n) := of_eq (n := 2) rfl rfl (by decide) (by decide)
theorem inc_B : Statement (.inc_B) := of_eq (n := 1) rfl rfl (by decide) (by decide)
theorem inc_C : Statement (.inc_C) := of_eq (n := 1) rfl rfl (by decide) (by decide)
theorem inc_D : Statement (.inc_D) := of_eq (n := 1) rfl rfl (by decide) (by decide)
theorem inc_E : Statement (.inc_E) := of_eq (n := 1) rfl rfl (by decide) (by decide)
theorem inc_H : Statement (.inc_H) := of_eq (n := 1) rfl rfl (by decide) (by decide)
theorem inc_L : Statement (.inc_L) := of_eq (n := 1) rfl rfl (by decide) (by decide)
theorem inc_A : Statement (.inc_A) := of_eq (n := 1) rfl rfl (by decide) (by decide)
theorem dec_B : Statement (.dec_B) := of_eq (n := 1) rfl rfl (by decide) (by decide)
theorem dec_C : Statement (.dec_C) := of_eq (n := 1) rfl rfl (by decide) (by decide)
theorem dec_D : Statement (.dec_D) := of_eq (n := 1) rfl rfl (by decide) (by decide)
theorem dec_E : Statement (.dec_E) := of_eq (n := 1) rfl rfl (by decide) (by decide)
theorem dec_H : Statement (.dec_H) := of_eq (n := 1) rfl rfl (by decide) (by decide)
theorem dec_L : Statement (.dec_L) := of_eq (n := 1) rfl rfl (by decide) (by decide)
theorem dec_A : Statement (.dec_A) := of_eq (n := 1) rfl rfl (by decide) (by decide)
theorem inc_BC : Statement (.inc_BC) := of_eq (n := 1) rfl rfl (by decide) (by decide)
theorem inc_DE : Statement (.inc_DE) := of_eq (n := 1) rfl rfl (by decide) (by decide)
theorem inc_HL : Statement (.inc_HL) := of_eq (n := 1) rfl rfl (by decide) (by decide)
theorem inc_SP : Statement (.inc_SP) := of_eq (n := 1) rfl rfl (by decide) (by decide)
theorem dec_BC : Statement (.dec_BC) := of_eq (n := 1) rfl rfl (by decide) (by decide)
theorem dec_DE : Statement (.dec_DE) := of_eq (n := 1) rfl rfl (by decide) (by decide)
theorem dec_HL : Statement (.dec_HL) := of_eq (n := 1) rfl rfl (by decide) (by decide)
theorem dec_SP : Statement (.dec_SP) := of_eq (n := 1) rfl rfl (by decide) (by decide)
theorem jp_nn (nn : Word) : Statement (.jp_nn nn) := of_eq (n := 3) rfl rfl (by decide) (by decide)
theorem jr_NZ_e (e : Int) : Statement (.jr_NZ_e e) := of_eq (n := 2) rfl rfl (by decide) (by decide)
theorem jr_Z_e (e : Int) : Statement (.jr_Z_e e) := of_eq (n := 2) rfl rfl (by decide) (by decide)
theorem jr_NC_e (e : Int) : Statement (.jr_NC_e e) := of_eq (n := 2) rfl rfl (by decide) (by decide)
theorem jr_C_e (e : Int) : Statement (.jr_C_e e) := of_eq (n := 2) rfl rfl (by decide) (by decide)
theorem jr_e (e : Int) : Statement (.jr_e e) := of_eq (n := 2) rfl rfl (by decide) (by decide)
theorem call_nn (nn : Word) : Statement (.call_nn nn) := of_eq (n := 3) rfl rfl (by decide) (by decide)
theorem ret : Statement (.ret) := of_eq (n := 1) rfl rfl (by decide) (by decide)
theorem push_BC : Statement (.push_BC) := of_eq (n := 1) rfl rfl (by decide) (by decide)
theorem push_DE : Statement (.push_DE) := of_eq (n := 1) rfl rfl (by decide) (by decide)
theorem push_HL : Statement (.push_HL) := of_eq (n := 1) rfl rfl (by decide) (by decide)
theorem push_AF : Statement (.push_AF) := of_eq (n := 1) rfl rfl (by decide) (by decide)
theorem pop_BC : Statement (.pop_BC) := of_eq (n := 1) rfl rfl (by decide) (by decide)
theorem pop_DE : Statement (.pop_DE) := of_eq (n := 1) rfl rfl (by decide) (by decide)
theorem pop_HL : Statement (.pop_HL) := of_eq (n := 1) rfl rfl (by decide) (by decide)
theorem pop_AF : Statement (.pop_AF) := of_eq (n := 1) rfl rfl (by decide) (by decide)
theorem res_0_B : Statement (.res_0_B) := of_eq (n := 2) rfl rfl (by decide) (by decide)
theorem res_0_C : Statement (.res_0_C) := of_eq (n := 2) rfl rfl (by decide) (by decide)
theorem res_0_D : Statement (.res_0_D) := of_eq (n := 2) rfl rfl (by decide) (by decide)
theorem res_0_E : Statement (.res_0_E) := of_eq (n := 2) rfl rfl (by decide) (by decide)
theorem res_0_H : Statement (.res_0_H) := of_eq (n := 2) rfl rfl (by decide) (by decide)
theorem res_0_L : Statement (.res_0_L) := of_eq (n := 2) rfl rfl (by decide) (by decide)
theorem res_0_A : Statement (.res_0_A) := of_eq (n := 2) rfl rfl (by decide) (by decide)
theorem res_1_B : Statement (.res_1_B) := of_eq (n := 2) rfl rfl (by decide) (by decide)
theorem res_1_C : Statement (.res_1_C) := of_eq (n := 2) rfl rfl (by decide) (by decide)
theorem res_1_D : Statement (.res_1_D) := of_eq (n := 2) rfl rfl (by decide) (by decide)
theorem res_1_E : Statement (.res_1_E) := of_eq (n := 2) rfl rfl (by decide) (by decide)
theorem res_1_H : Statement (.res_1_H) := of_eq (n := 2) rfl rfl (by decide) (by decide)
theorem res_1_L : Statement (.res_1_L) := of_eq (n := 2) rfl rfl (by decide) (by decide)
theorem res_1_A : Statement (.res_1_A) := of_eq (n := 2) rfl rfl (by decide) (by decide)
theorem res_2_B : Statement (.res_2_B) := of_eq (n := 2) rfl rfl (by decide) (by decide)
theorem res_2_C : Statement (.res_2_C) := of_eq (n := 2) rfl rfl (by decide) (by decide)
theorem res_2_D : Statement (.res_2_D) := of_eq (n := 2) rfl rfl (by decide) (by decide)
theorem res_2_E : Statement (.res_2_E) := of_eq (n := 2) rfl rfl (by decide) (by decide)
theorem res_2_H : Statement (.res_2_H) := of_eq (n := 2) rfl rfl (by decide) (by decide)
theorem res_2_L : Statement (.res_2_L) := of_eq (n := 2) rfl rfl (by decide) (by decide)
theorem res_2_A : Statement (.res_2_A) := of_eq (n := 2) rfl rfl (by decide) (by decide)
theorem res_3_B : Statement (.res_3_B) := of_eq (n := 2) rfl rfl (by decide) (by decide)
theorem res_3_C : Statement (.res_3_C) := of_eq (n := 2) rfl rfl (by decide) (by decide)
theorem res_3_D : Statement (.res_3_D) := of_eq (n := 2) rfl rfl (by decide) (by decide)
theorem res_3_E : Statement (.res_3_E) := of_eq (n := 2) rfl rfl (by decide) (by decide)
theorem res_3_H : Statement (.res_3_H) := of_eq (n := 2) rfl rfl (by decide) (by decide)
theorem res_3_L : Statement (.res_3_L) := of_eq (n := 2) rfl rfl (by decide) (by decide)
theorem res_3_A : Statement (.res_3_A) := of_eq (n := 2) rfl rfl (by decide) (by decide)
theorem res_4_B : Statement (.res_4_B) := of_eq (n := 2) rfl rfl (by decide) (by decide)
theorem res_4_C : Statement (.res_4_C) := of_eq (n := 2) rfl rfl (by decide) (by decide)
theorem res_4_D : Statement (.res_4_D) := of_eq (n := 2) rfl rfl (by decide) (by decide)
theorem res_4_E : Statement (.res_4_E) := of_eq (n := 2) rfl rfl (by decide) (by decide)
theorem res_4_H : Statement (.res_4_H) := of_eq (n := 2) rfl rfl (by decide) (by decide)
theorem res_4_L : Statement (.res_4_L) := of_eq (n := 2) rfl rfl (by decide) (by decide)
theorem res_4_A : Statement (.res_4_A) := of_eq (n := 2) rfl rfl (by decide) (by decide)
theorem res_5_B : Statement (.res_5_B) := of_eq (n := 2) rfl rfl (by decide) (by decide)
theorem res_5_C : Statement (.res_5_C) := of_eq (n := 2) rfl rfl (by decide) (by decide)
theorem res_5_D : Statement (.res_5_D) := of_eq (n := 2) rfl rfl (by decide) (by decide)
theorem res_5_E : Statement (.res_5_E) := of_eq (n := 2) rfl rfl (by decide) (by decide)
theorem res_5_H : Statement (.res_5_H) := of_eq (n := 2) rfl rfl (by decide) (by decide)
theorem res_5_L : Statement (.res_5_L) := of_eq (n := 2) rfl rfl (by decide) (by decide)
theorem res_5_A : Statement (.res_5_A) := of_eq (n := 2) rfl rfl (by decide) (by decide)
theorem res_6_B : Statement (.res_6_B) := of_eq (n := 2) rfl rfl (by decide) (by decide)
theorem res_6_C : Statement (.res_6_C) := of_eq (n := 2) rfl rfl (by decide) (by decide)
theorem res_6_D : Statement (.res_6_D) := of_eq (n := 2) rfl rfl (by decide) (by decide)
theorem res_6_E : Statement (.res_6_E) := of_eq (n := 2) rfl rfl (by decide) (by decide)
theorem res_6_H : Statement (.res_6_H) := of_eq (n := 2) rfl rfl (by decide) (by decide)
theorem res_6_L : Statement (.res_6_L) := of_eq (n := 2) rfl rfl (by decide) (by decide)
theorem res_6_A : Statement (.res_6_A) := of_eq (n := 2) rfl rfl (by decide) (by decide)
theorem res_7_B : Statement (.res_7_B) := of_eq (n := 2) rfl rfl (by decide) (by decide)
theorem res_7_C : Statement (.res_7_C) := of_eq (n := 2) rfl rfl (by decide) (by decide)
theorem res_7_D : Statement (.res_7_D) := of_eq (n := 2) rfl rfl (by decide) (by decide)
theorem res_7_E : Statement (.res_7_E) := of_eq (n := 2) rfl rfl (by decide) (by decide)
theorem res_7_H : Statement (.res_7_H) := of_eq (n := 2) rfl rfl (by decide) (by decide)
theorem res_7_L : Statement (.res_7_L) := of_eq (n := 2) rfl rfl (by decide) (by decide)
theorem res_7_A : Statement (.res_7_A) := of_eq (n := 2) rfl rfl (by decide) (by decide)
theorem nop : Statement (.nop) := of_eq (n := 1) rfl rfl (by decide) (by decide)
theorem di : Statement (.di) := of_eq (n := 1) rfl rfl (by decide) (by decide)

end Sys2Proof.Laws.EncodedLength
end

