-- ==== Sys2Proof/Laws/Step.lean ====
section
/-! SUPPORT. Step laws: what a step can do, said once, and when a fetch succeeds. -/

namespace Sys2Proof.Machine

/-- A running machine whose bank is loaded takes a running step. -/
theorem step_running {s : State} (h : s.status = .running) (hl : s.romLoaded = true) : step s = runningStep s := by
  simp [step, interpStep, h, hl]

/-- With no stop requested, a running step fetches and executes. -/
theorem runningStep_fetch {s : State} (h : s.stopRequest = false) :
    runningStep s =
      match fetchInstr s with
      | .error record => .next (takeFault s record)
      | .ok i => exec i s := by
  exact if_neg (by simp [h])

/-- What a step can do: it stops on request, takes the fault of its fetch, or executes the instruction it fetched
(70_reset_and_hazards.md R255). -/
theorem step_cases {s t : State} (h : step s = .next t) :
    s.status = .running ∧ s.romLoaded = true ∧
    ((s.stopRequest = true ∧ t = s.setStatus .stopped) ∨
     (s.stopRequest = false ∧ ∃ r, fetchInstr s = .error r ∧ t = takeFault s r) ∨
     (s.stopRequest = false ∧ ∃ i, fetchInstr s = .ok i ∧ exec i s = .next t)) := by
  have hs : s.status = .running := by
    cases hst : s.status with
    | running => rfl
    | faulted r => simp [step, interpStep, hst] at h
    | stopped => simp [step, interpStep, hst] at h
  have hl : s.romLoaded = true := by
    by_contra hl
    simp [step, interpStep, hs, hl] at h
  refine ⟨hs, hl, ?_⟩
  rw [step_running hs hl] at h
  by_cases hr : s.stopRequest = true
  · rw [runningStep, if_pos hr] at h
    exact .inl ⟨hr, (Host.Outcome.next.inj h).symm⟩
  · have hr : s.stopRequest = false := by simpa using hr
    rw [runningStep_fetch hr] at h
    cases hf : fetchInstr s with
    | error r =>
      rw [hf] at h
      exact .inr (.inl ⟨hr, r, rfl, (Host.Outcome.next.inj h).symm⟩)
    | ok i =>
      rw [hf] at h
      exact .inr (.inr ⟨hr, i, rfl, h⟩)

/-! ## Fetching bytes -/

theorem regionOf_ofNat {n : Nat} (h : n ≤ 0xFFFF) : regionOf (BitVec.ofNat 16 n) = regionAt n := by
  have : (BitVec.ofNat 16 n).toNat = n := by
    rw [BitVec.toNat_ofNat]
    omega
  rw [regionOf, this]

/-- An instruction byte that can be read is the byte in memory (30_encoding.md R112). -/
theorem fetchByte_ok (s : State) (k : Nat) (h : s.pc.toNat + k ≤ 0xFFFF)
    (hr : (regionAt (s.pc.toNat + k)).kind ≠ .unmapped) : fetchByte s k = .ok (s.mem.read (s.pc.toNat + k)) := by
  have hu : u16 ((s.pc.toNat : Int) + k) = BitVec.ofNat 16 (s.pc.toNat + k) := by
    rw [← u16_natCast]
    push_cast
    rfl
  have hn : (BitVec.ofNat 16 (s.pc.toNat + k)).toNat = s.pc.toNat + k := by
    rw [BitVec.toNat_ofNat]
    omega
  unfold fetchByte
  rw [chk_ok s _ _ (by omega), ok_bind, hu, readU8_ok s _ (by rw [readable, regionOf_ofNat h]; exact hr), hn]

/-- An instruction byte that cannot be read faults at its address mod 65536 (30_encoding.md R112, 00_scope.md R19). -/
theorem fetchByte_error (s : State) (k : Nat)
    (h : ¬(s.pc.toNat + k ≤ 0xFFFF ∧ readable (s.pc + BitVec.ofNat 16 k))) :
    fetchByte s k = .error (.memoryFault s.pc (s.pc + BitVec.ofNat 16 k) .read) := by
  unfold fetchByte
  by_cases hr : s.pc.toNat + k ≤ 0xFFFF
  · rw [chk_ok s _ _ (by omega), ok_bind, u16_add]
    exact readU8_unmapped s _ (by simpa [hr] using h)
  · rw [chk_error s _ _ (by omega), error_bind, u16_add]

/-- The first byte decides the table (30_encoding.md R112). -/
theorem fetchForm_of_first_byte {s : State} {b1 : Byte} (h : fetchByte s 0 = .ok b1) :
    fetchForm s = if b1 = escapeByte then fetchExtended s else fetchPrimary s b1 := by
  simp only [fetchForm, h, ok_bind]

/-- A first byte that cannot be read is the fetch's fault (30_encoding.md R112). -/
theorem fetchForm_error_of_first_byte {s : State} {r : FaultRecord} (h : fetchByte s 0 = .error r) :
    fetchForm s = .error r := by
  simp only [fetchForm, h, error_bind]

theorem fetchInstr_ok {s : State} {f : Form} (h : fetchForm s = .ok f) : fetchInstr s = .ok f.toInstr := by
  simp only [fetchInstr, h, ok_bind]

theorem fetchInstr_error {s : State} {r : FaultRecord} (h : fetchForm s = .error r) : fetchInstr s = .error r := by
  simp only [fetchInstr, h, error_bind]

/-! ## Placing code -/

/-- Placing bytes keeps the canonical form. -/
theorem placeBytes_wf (vs : List Byte) (m : Memory) (n : Nat) (h : m.wf) : (placeBytes m n vs).wf := by
  induction vs generalizing m n with
  | nil => exact h
  | cons v vs ih =>
    refine ih _ _ ?_
    split
    · exact Memory.wf_write m n v h
    · exact h

end Sys2Proof.Machine
end

