-- ==== Sys2Proof/Laws/Run.lean ====
section
/-! SUPPORT. Run laws: what a boot, a step of the host's and a run can do, said once, and the one induction over a run. -/

namespace Sys2Proof.Machine

/-! ## Booting -/

/-- What a boot gives: the CORE constructed with the policy and the image's first 16384 bytes in ROM0
(70_reset_and_hazards.md R252, R253). -/
theorem boot_eq (policy : RomWritePolicy) (image : List Byte) :
    boot policy image =
      if image.length < 16384 then .error .shortImage
      else .ok { State.construct policy with mem := Memory.loadLow [] (image.take 16384), romLoaded := true } := by
  have hl : ¬image.length < fixedBankSize → (image.take fixedBankSize).length = fixedBankSize := fun h => by
    rw [List.length_take]
    omega
  unfold boot loadFixedBank
  split <;> rename_i h
  · rw [if_pos (show image.length < 16384 from h)]
  · rw [if_neg (by simp), if_neg (not_not.mpr (hl h)), if_neg (show ¬image.length < 16384 from h)]
    rfl

theorem boot_cases {policy : RomWritePolicy} {image : List Byte} {s : State} (h : boot policy image = .ok s) :
    16384 ≤ image.length ∧
      s = { State.construct policy with mem := Memory.loadLow [] (image.take 16384), romLoaded := true } := by
  rw [boot_eq] at h
  split at h
  · cases h
  · exact ⟨by omega, (Except.ok.inj h).symm⟩

/-! ## A step of the host's -/

/-- The host's step is the machine's, from the state with the request raised or not (60_exceptions.md R232). -/
theorem hostStep_eq (raise : Bool) (s : State) : hostStep raise s = step (beforeStep raise s) := rfl

/-- A running machine whose bank is loaded has a step (70_reset_and_hazards.md R260). -/
theorem step_next {s : State} (h : s.status = .running) (hl : s.romLoaded = true) : ∃ t, step s = .next t := by
  rw [step_running h hl, runningStep]
  split
  · exact ⟨_, rfl⟩
  · split
    · exact ⟨_, rfl⟩
    · exact exec_next _ _

theorem hostStep_next {s : State} (raise : Bool) (h : s.status = .running) (hl : s.romLoaded = true) :
    ∃ t, hostStep raise s = .next t :=
  step_next (by simpa using h) (by simpa using hl)

/-- Only a running machine whose bank is loaded has a step, whatever the host chooses (60_exceptions.md R230). -/
theorem hostStep_from {raise : Bool} {s t : State} (h : hostStep raise s = .next t) :
    s.status = .running ∧ s.romLoaded = true := by
  obtain ⟨hs, hl, -⟩ := step_cases h
  exact ⟨by simpa using hs, by simpa using hl⟩

/-! ## Trace records -/

/-- An instruction that executes has a record (60_exceptions.md R236). -/
theorem traceExec_running {i : Instr} {s t : State} (h : exec i s = .next t) (ht : t.status = .running) :
    traceExec i s = some { mnemonic := i.form.mnemonic, operands := i.form.operands, resultingPc := t.pc } := by
  simp only [traceExec, h, ht]

/-- An instruction that faults has none (60_exceptions.md R226, R236). -/
theorem traceExec_faulted {i : Instr} {s t : State} {r : FaultRecord} (h : exec i s = .next t)
    (ht : t.status = .faulted r) : traceExec i s = none := by
  simp only [traceExec, h, ht]

/-- The record of a step that fetches an instruction is that instruction's. -/
theorem traceStep_fetch {i : Instr} {s : State} (h : s.status = .running) (hl : s.romLoaded = true)
    (hs : s.stopRequest = false) (hf : fetchInstr s = .ok i) : traceStep s = traceExec i s := by
  unfold traceStep
  rw [if_pos ⟨h, hl, hs⟩, hf]

/-! ## Runs -/

@[simp] theorem runLoop_nil (s : State) : runLoop [] s = s := rfl

@[simp] theorem runTrace_nil (s : State) : runTrace [] s = [] := rfl

theorem runLoop_cons {raise : Bool} {s t : State} (later : List Bool) (h : hostStep raise s = .next t) :
    runLoop (raise :: later) s = runLoop later t := by
  simp only [runLoop, h]

theorem runTrace_cons {raise : Bool} {s t : State} (later : List Bool) (h : hostStep raise s = .next t) :
    runTrace (raise :: later) s = (traceStep (beforeStep raise s)).toList ++ runTrace later t := by
  simp only [runTrace, h]

/-- Where no step is enabled a run stays and emits nothing (60_exceptions.md R230). -/
theorem runLoop_stay {s : State} (host : List Bool) (h : ¬(s.status = .running ∧ s.romLoaded = true)) :
    runLoop host s = s ∧ runTrace host s = [] := by
  cases host with
  | nil => exact ⟨rfl, rfl⟩
  | cons raise later =>
    cases hn : hostStep raise s with
    | next t => exact absurd (hostStep_from hn) h
    | fault f => exact ⟨by simp only [runLoop, hn], by simp only [runTrace, hn]⟩
    | refused r => exact ⟨by simp only [runLoop, hn], by simp only [runTrace, hn]⟩

/-- A run goes on from the state it has reached, and its records with it. -/
theorem runLoop_append (host later : List Bool) (s : State) :
    runLoop (host ++ later) s = runLoop later (runLoop host s) ∧
    runTrace (host ++ later) s = runTrace host s ++ runTrace later (runLoop host s) := by
  induction host generalizing s with
  | nil => exact ⟨rfl, rfl⟩
  | cons raise host ih =>
    by_cases h : s.status = .running ∧ s.romLoaded = true
    · obtain ⟨t, ht⟩ := hostStep_next raise h.1 h.2
      rw [List.cons_append, runLoop_cons _ ht, runLoop_cons _ ht, runTrace_cons _ ht, runTrace_cons _ ht, (ih t).1,
        (ih t).2, List.append_assoc]
      exact ⟨rfl, rfl⟩
    · rw [(runLoop_stay _ h).1, (runLoop_stay _ h).1, (runLoop_stay _ h).1, (runLoop_stay _ h).2, (runLoop_stay _ h).2,
        (runLoop_stay _ h).2]
      exact ⟨rfl, rfl⟩

/-- What holds at the start and is kept by every step of the host's holds in every state a run reaches. -/
theorem runLoop_induction {P : State → Prop} (step : ∀ (raise : Bool) (s t : State), P s → hostStep raise s = .next t → P t)
    (host : List Bool) (s : State) (h : P s) : P (runLoop host s) := by
  induction host generalizing s with
  | nil => exact h
  | cons raise host ih =>
    cases hn : hostStep raise s with
    | next t =>
      rw [runLoop_cons _ hn]
      exact ih t (step raise s t h hn)
    | fault f => simpa only [runLoop, hn] using h
    | refused r => simpa only [runLoop, hn] using h

/-- A run ends only in Faulted or Stopped (60_exceptions.md R233). -/
@[simp] theorem Status.ended_eq_false {st : Status} : st.ended = false ↔ st = .running := by
  cases st <;> simp [Status.ended]

@[simp] theorem Status.ended_eq_true {st : Status} : st.ended = true ↔ st ≠ .running := by
  cases st <;> simp [Status.ended]

/-- A run fails as its boot fails, before the first step (70_reset_and_hazards.md R253). -/
theorem run_error {policy : RomWritePolicy} {image : List Byte} {e : LoadError} (host : List Bool)
    (h : boot policy image = .error e) : run policy image host = .error e := by
  rw [run, h]
  rfl

theorem run_ok {policy : RomWritePolicy} {image : List Byte} {s : State} (host : List Bool)
    (h : boot policy image = .ok s) : run policy image host = .ok (observe host s) := by
  rw [run, h]
  rfl

/-- A run that did not fail is what the host observes after the boot, whichever other choices it makes. -/
theorem run_cases {policy : RomWritePolicy} {image : List Byte} {host : List Bool} {r : RunOutput}
    (h : run policy image host = .ok r) : ∃ s, boot policy image = .ok s ∧ r = observe host s ∧
      ∀ other : List Bool, run policy image other = .ok (observe other s) := by
  cases hb : boot policy image with
  | error e =>
    rw [run_error host hb] at h
    cases h
  | ok s =>
    rw [run_ok host hb] at h
    exact ⟨s, rfl, (Except.ok.inj h).symm, fun other => run_ok other hb⟩

end Sys2Proof.Machine
end

