-- ==== Sys2Proof/Tests/Slice0.lean ====
section
/-! SUPPORT. Tests: the spec's own encodings decoded row by row, its test vectors (95_test_vectors.md) one step each,
and, for every obligation with hypotheses, a concrete input that meets them. Expected values are the spec's. -/

namespace Sys2Proof.Tests

open Sys2Proof.Machine

/-! ## WellFormed smoke: the one check, a displacement out of −128 … +127 (30_encoding.md R117) -/

theorem test_wellFormed_refuses_jr_above : (Instr.jr_e 128).wellFormed = false := by decide
theorem test_wellFormed_refuses_jr_below : (Instr.jr_e (-129)).wellFormed = false := by decide
theorem test_wellFormed_refuses_jr_cond_above : (Instr.jr_Z_e 128).wellFormed = false := by decide
theorem test_wellFormed_refuses_jr_cond_below : (Instr.jr_NZ_e (-129)).wellFormed = false := by decide
theorem test_wellFormed_accepts_the_range :
    (Instr.jr_e (-128)).wellFormed = true ∧ (Instr.jr_C_e 127).wellFormed = true := by decide

/-! ## Every row's word, from the spec's encoding (30_encoding.md R122, R123), with operand bytes of our own -/

/-- Each list of words decodes to its instruction and is that instruction's encoding. -/
abbrev Agree (rows : List (List Byte × Instr)) : Prop :=
  ∀ p ∈ rows, (decode p.1).toOption = some (p.2, []) ∧ encode p.2 = p.1

theorem test_decode_ld_B : Agree
    [([0b01000000#8], .ld_B_B), ([0b01000001#8], .ld_B_C), ([0b01000010#8], .ld_B_D),
     ([0b01000011#8], .ld_B_E), ([0b01000100#8], .ld_B_H), ([0b01000101#8], .ld_B_L),
     ([0b01000110#8], .ld_B_mHL), ([0b01000111#8], .ld_B_A)] := by decide

theorem test_decode_ld_C : Agree
    [([0b01001000#8], .ld_C_B), ([0b01001001#8], .ld_C_C), ([0b01001010#8], .ld_C_D),
     ([0b01001011#8], .ld_C_E), ([0b01001100#8], .ld_C_H), ([0b01001101#8], .ld_C_L),
     ([0b01001110#8], .ld_C_mHL), ([0b01001111#8], .ld_C_A)] := by decide

theorem test_decode_ld_D : Agree
    [([0b01010000#8], .ld_D_B), ([0b01010001#8], .ld_D_C), ([0b01010010#8], .ld_D_D),
     ([0b01010011#8], .ld_D_E), ([0b01010100#8], .ld_D_H), ([0b01010101#8], .ld_D_L),
     ([0b01010110#8], .ld_D_mHL), ([0b01010111#8], .ld_D_A)] := by decide

theorem test_decode_ld_E : Agree
    [([0b01011000#8], .ld_E_B), ([0b01011001#8], .ld_E_C), ([0b01011010#8], .ld_E_D),
     ([0b01011011#8], .ld_E_E), ([0b01011100#8], .ld_E_H), ([0b01011101#8], .ld_E_L),
     ([0b01011110#8], .ld_E_mHL), ([0b01011111#8], .ld_E_A)] := by decide

theorem test_decode_ld_H : Agree
    [([0b01100000#8], .ld_H_B), ([0b01100001#8], .ld_H_C), ([0b01100010#8], .ld_H_D),
     ([0b01100011#8], .ld_H_E), ([0b01100100#8], .ld_H_H), ([0b01100101#8], .ld_H_L),
     ([0b01100110#8], .ld_H_mHL), ([0b01100111#8], .ld_H_A)] := by decide

theorem test_decode_ld_L : Agree
    [([0b01101000#8], .ld_L_B), ([0b01101001#8], .ld_L_C), ([0b01101010#8], .ld_L_D),
     ([0b01101011#8], .ld_L_E), ([0b01101100#8], .ld_L_H), ([0b01101101#8], .ld_L_L),
     ([0b01101110#8], .ld_L_mHL), ([0b01101111#8], .ld_L_A)] := by decide

theorem test_decode_ld_mHL : Agree
    [([0b01110000#8], .ld_mHL_B), ([0b01110001#8], .ld_mHL_C), ([0b01110010#8], .ld_mHL_D),
     ([0b01110011#8], .ld_mHL_E), ([0b01110100#8], .ld_mHL_H), ([0b01110101#8], .ld_mHL_L),
     ([0b01110111#8], .ld_mHL_A)] := by decide

theorem test_decode_ld_A : Agree
    [([0b01111000#8], .ld_A_B), ([0b01111001#8], .ld_A_C), ([0b01111010#8], .ld_A_D),
     ([0b01111011#8], .ld_A_E), ([0b01111100#8], .ld_A_H), ([0b01111101#8], .ld_A_L),
     ([0b01111110#8], .ld_A_mHL), ([0b01111111#8], .ld_A_A)] := by decide

theorem test_decode_ld_operands : Agree
    [([0b00000110#8, 0x5A#8], .ld_B_n 0x5A#8), ([0b00001110#8, 0x5A#8], .ld_C_n 0x5A#8),
     ([0b00010110#8, 0x5A#8], .ld_D_n 0x5A#8), ([0b00011110#8, 0x5A#8], .ld_E_n 0x5A#8),
     ([0b00100110#8, 0x5A#8], .ld_H_n 0x5A#8), ([0b00101110#8, 0x5A#8], .ld_L_n 0x5A#8),
     ([0b00110110#8, 0x5A#8], .ld_mHL_n 0x5A#8), ([0b00111110#8, 0x5A#8], .ld_A_n 0x5A#8),
     ([0b00000001#8, 0x34#8, 0x12#8], .ld_BC_nn 0x1234#16),
     ([0b00010001#8, 0x34#8, 0x12#8], .ld_DE_nn 0x1234#16),
     ([0b00100001#8, 0x34#8, 0x12#8], .ld_HL_nn 0x1234#16),
     ([0b00110001#8, 0x34#8, 0x12#8], .ld_SP_nn 0x1234#16),
     ([0b11111010#8, 0x34#8, 0x12#8], .ld_A_mnn 0x1234#16),
     ([0b11101010#8, 0x34#8, 0x12#8], .ld_mnn_A 0x1234#16), ([0b11110000#8, 0x44#8], .ldh_A_mn 0x44#8),
     ([0b11100000#8, 0x44#8], .ldh_mn_A 0x44#8), ([0b11110010#8], .ld_A_mC), ([0b11100010#8], .ld_mC_A)] := by decide

theorem test_decode_add : Agree
    [([0b10000000#8], .add_A_B), ([0b10000001#8], .add_A_C), ([0b10000010#8], .add_A_D),
     ([0b10000011#8], .add_A_E), ([0b10000100#8], .add_A_H), ([0b10000101#8], .add_A_L),
     ([0b10000110#8], .add_A_mHL), ([0b10000111#8], .add_A_A), ([0b11000110#8, 0x5A#8], .add_A_n 0x5A#8)] := by decide

theorem test_decode_sub : Agree
    [([0b10010000#8], .sub_B), ([0b10010001#8], .sub_C), ([0b10010010#8], .sub_D), ([0b10010011#8], .sub_E),
     ([0b10010100#8], .sub_H), ([0b10010101#8], .sub_L), ([0b10010110#8], .sub_mHL), ([0b10010111#8], .sub_A),
     ([0b11010110#8, 0x5A#8], .sub_n 0x5A#8)] := by decide

theorem test_decode_and : Agree
    [([0b10100000#8], .and_B), ([0b10100001#8], .and_C), ([0b10100010#8], .and_D), ([0b10100011#8], .and_E),
     ([0b10100100#8], .and_H), ([0b10100101#8], .and_L), ([0b10100110#8], .and_mHL), ([0b10100111#8], .and_A),
     ([0b11100110#8, 0x5A#8], .and_n 0x5A#8)] := by decide

theorem test_decode_xor : Agree
    [([0b10101000#8], .xor_B), ([0b10101001#8], .xor_C), ([0b10101010#8], .xor_D), ([0b10101011#8], .xor_E),
     ([0b10101100#8], .xor_H), ([0b10101101#8], .xor_L), ([0b10101110#8], .xor_mHL), ([0b10101111#8], .xor_A),
     ([0b11101110#8, 0x5A#8], .xor_n 0x5A#8)] := by decide

theorem test_decode_or : Agree
    [([0b10110000#8], .or_B), ([0b10110001#8], .or_C), ([0b10110010#8], .or_D), ([0b10110011#8], .or_E),
     ([0b10110100#8], .or_H), ([0b10110101#8], .or_L), ([0b10110110#8], .or_mHL), ([0b10110111#8], .or_A),
     ([0b11110110#8, 0x5A#8], .or_n 0x5A#8)] := by decide

theorem test_decode_cp : Agree
    [([0b10111000#8], .cp_B), ([0b10111001#8], .cp_C), ([0b10111010#8], .cp_D), ([0b10111011#8], .cp_E),
     ([0b10111100#8], .cp_H), ([0b10111101#8], .cp_L), ([0b10111110#8], .cp_mHL), ([0b10111111#8], .cp_A),
     ([0b11111110#8, 0x5A#8], .cp_n 0x5A#8)] := by decide

theorem test_decode_inc_dec : Agree
    [([0b00000100#8], .inc_B), ([0b00001100#8], .inc_C), ([0b00010100#8], .inc_D), ([0b00011100#8], .inc_E),
     ([0b00100100#8], .inc_H), ([0b00101100#8], .inc_L), ([0b00111100#8], .inc_A), ([0b00000101#8], .dec_B),
     ([0b00001101#8], .dec_C), ([0b00010101#8], .dec_D), ([0b00011101#8], .dec_E), ([0b00100101#8], .dec_H),
     ([0b00101101#8], .dec_L), ([0b00111101#8], .dec_A), ([0b00000011#8], .inc_BC), ([0b00010011#8], .inc_DE),
     ([0b00100011#8], .inc_HL), ([0b00110011#8], .inc_SP), ([0b00001011#8], .dec_BC),
     ([0b00011011#8], .dec_DE), ([0b00101011#8], .dec_HL), ([0b00111011#8], .dec_SP)] := by decide

theorem test_decode_control : Agree
    [([0b11000011#8, 0x34#8, 0x12#8], .jp_nn 0x1234#16), ([0b00100000#8, 0xFC#8], .jr_NZ_e (-4)),
     ([0b00101000#8, 0xFC#8], .jr_Z_e (-4)), ([0b00110000#8, 0xFC#8], .jr_NC_e (-4)),
     ([0b00111000#8, 0xFC#8], .jr_C_e (-4)), ([0b00011000#8, 0xFC#8], .jr_e (-4)),
     ([0b11001101#8, 0x34#8, 0x12#8], .call_nn 0x1234#16), ([0b11001001#8], .ret)] := by decide

theorem test_decode_stack_misc : Agree
    [([0b11000101#8], .push_BC), ([0b11010101#8], .push_DE), ([0b11100101#8], .push_HL),
     ([0b11110101#8], .push_AF), ([0b11000001#8], .pop_BC), ([0b11010001#8], .pop_DE),
     ([0b11100001#8], .pop_HL), ([0b11110001#8], .pop_AF), ([0b00000000#8], .nop), ([0b11110011#8], .di)] := by decide

theorem test_decode_res0 : Agree
    [([0b11001011#8, 0b10000000#8], .res_0_B), ([0b11001011#8, 0b10000001#8], .res_0_C),
     ([0b11001011#8, 0b10000010#8], .res_0_D), ([0b11001011#8, 0b10000011#8], .res_0_E),
     ([0b11001011#8, 0b10000100#8], .res_0_H), ([0b11001011#8, 0b10000101#8], .res_0_L),
     ([0b11001011#8, 0b10000111#8], .res_0_A)] := by decide

theorem test_decode_res1 : Agree
    [([0b11001011#8, 0b10001000#8], .res_1_B), ([0b11001011#8, 0b10001001#8], .res_1_C),
     ([0b11001011#8, 0b10001010#8], .res_1_D), ([0b11001011#8, 0b10001011#8], .res_1_E),
     ([0b11001011#8, 0b10001100#8], .res_1_H), ([0b11001011#8, 0b10001101#8], .res_1_L),
     ([0b11001011#8, 0b10001111#8], .res_1_A)] := by decide

theorem test_decode_res2 : Agree
    [([0b11001011#8, 0b10010000#8], .res_2_B), ([0b11001011#8, 0b10010001#8], .res_2_C),
     ([0b11001011#8, 0b10010010#8], .res_2_D), ([0b11001011#8, 0b10010011#8], .res_2_E),
     ([0b11001011#8, 0b10010100#8], .res_2_H), ([0b11001011#8, 0b10010101#8], .res_2_L),
     ([0b11001011#8, 0b10010111#8], .res_2_A)] := by decide

theorem test_decode_res3 : Agree
    [([0b11001011#8, 0b10011000#8], .res_3_B), ([0b11001011#8, 0b10011001#8], .res_3_C),
     ([0b11001011#8, 0b10011010#8], .res_3_D), ([0b11001011#8, 0b10011011#8], .res_3_E),
     ([0b11001011#8, 0b10011100#8], .res_3_H), ([0b11001011#8, 0b10011101#8], .res_3_L),
     ([0b11001011#8, 0b10011111#8], .res_3_A)] := by decide

theorem test_decode_res4 : Agree
    [([0b11001011#8, 0b10100000#8], .res_4_B), ([0b11001011#8, 0b10100001#8], .res_4_C),
     ([0b11001011#8, 0b10100010#8], .res_4_D), ([0b11001011#8, 0b10100011#8], .res_4_E),
     ([0b11001011#8, 0b10100100#8], .res_4_H), ([0b11001011#8, 0b10100101#8], .res_4_L),
     ([0b11001011#8, 0b10100111#8], .res_4_A)] := by decide

theorem test_decode_res5 : Agree
    [([0b11001011#8, 0b10101000#8], .res_5_B), ([0b11001011#8, 0b10101001#8], .res_5_C),
     ([0b11001011#8, 0b10101010#8], .res_5_D), ([0b11001011#8, 0b10101011#8], .res_5_E),
     ([0b11001011#8, 0b10101100#8], .res_5_H), ([0b11001011#8, 0b10101101#8], .res_5_L),
     ([0b11001011#8, 0b10101111#8], .res_5_A)] := by decide

theorem test_decode_res6 : Agree
    [([0b11001011#8, 0b10110000#8], .res_6_B), ([0b11001011#8, 0b10110001#8], .res_6_C),
     ([0b11001011#8, 0b10110010#8], .res_6_D), ([0b11001011#8, 0b10110011#8], .res_6_E),
     ([0b11001011#8, 0b10110100#8], .res_6_H), ([0b11001011#8, 0b10110101#8], .res_6_L),
     ([0b11001011#8, 0b10110111#8], .res_6_A)] := by decide

theorem test_decode_res7 : Agree
    [([0b11001011#8, 0b10111000#8], .res_7_B), ([0b11001011#8, 0b10111001#8], .res_7_C),
     ([0b11001011#8, 0b10111010#8], .res_7_D), ([0b11001011#8, 0b10111011#8], .res_7_E),
     ([0b11001011#8, 0b10111100#8], .res_7_H), ([0b11001011#8, 0b10111101#8], .res_7_L),
     ([0b11001011#8, 0b10111111#8], .res_7_A)] := by decide

/-- No byte matches two rows of the primary table (30_encoding.md R122). -/
theorem test_primary_rows_do_not_overlap :
    primaryRows.Pairwise (fun p q => p.pattern &&& (p.mask &&& q.mask) ≠ q.pattern &&& (p.mask &&& q.mask)) := by decide

/-- The counts of 30_encoding.md R125, R126: 80 Undefined primary bytes, 200 Undefined extended ones. -/
theorem test_undefined_counts :
    (Finset.univ.filter fun b : Fin 256 =>
      BitVec.ofFin b ≠ escapeByte ∧ (decodePrimary (BitVec.ofFin b)).isNone = true).card = 80 ∧
    (Finset.univ.filter fun b : Fin 256 => (decodeExtended (BitVec.ofFin b)).isNone = true).card = 200 :=
  ⟨rfl, rfl⟩

theorem test_decode_undefined : (decode [0x76#8]).toOption = none ∧ (decode [0xCB#8, 0x86#8]).toOption = none ∧
    (decode [0x34#8]).toOption = none ∧ (decode [0xC2#8, 0x00#8, 0x02#8]).toOption = none := by decide

theorem test_decode_truncated : (decode [0x3E#8]).toOption = none ∧ (decode [0xCD#8, 0x00#8]).toOption = none ∧
    (decode [0xCB#8]).toOption = none := by decide

/-- Words as spec/opcode_table.json numbers them; the 16-bit rows have the escape byte in bits 15..8. -/
theorem test_decodeTableWord : decodeTableWord 8 0x41 = some .ld_B_C ∧ decodeTableWord 16 0xCB87 = some .res_0_A ∧
    decodeTableWord 24 0xC123FA = some (.ld_A_mnn 0xC123#16) ∧ decodeTableWord 16 0x0F3E = some (.ld_A_n 0x0F#8) ∧
    decodeTableWord 8 0x76 = none := by decide

/-! ## One step each, from 95_test_vectors.md -/

/-- A running machine with the bank loaded, the instruction bytes at the pc and some other cells. -/
def start (code : List Byte) (regs : RegFile := RegFile.reset) (sp : Word := 0xFFFE#16) (pc : Word := 0x0100#16)
    (cells : List (Nat × Byte) := []) (policy : RomWritePolicy := .ignore) : State :=
  { State.construct policy with
    regs := regs
    sp := sp
    pc := pc
    mem := placeBytes (cells.foldl (fun m c => m.write c.1 c.2) []) pc.toNat code
    romLoaded := true }

/-- The register file at reset but for A, F, B, C and HL. -/
def withRegs (a f b c h l : Byte) : RegFile := { RegFile.reset with a := a, f := f, b := b, c := c, h := h, l := l }

/-- A view of the state after one step, none where there is no next state. -/
def look {α : Type} (s : State) (view : State → α) : Option α :=
  match step s with
  | .next t => some (view t)
  | .fault _ => none
  | .refused _ => none

/-- The view of a fault: the status, and what must not have moved (60_exceptions.md R226). -/
def faultView (t : State) : Status × RegFile × Word × Word := (t.status, t.regs, t.sp, t.pc)

/-! V-LOAD -/

theorem test_ld_B_C :
    look (start [0x41#8] (regs := { RegFile.reset with b := 0x12#8, c := 0x34#8 }))
      (fun t => (t.regs.b, t.pc, t.regs.f)) = some (0x34#8, 0x0101#16, 0x00#8) := by decide

theorem test_ld_A_mHL :
    look (start [0x7E#8] (regs := { RegFile.reset with h := 0xC0#8 }) (cells := [(0xC000, 0xAB#8)]))
      (fun t => (t.regs.a, t.pc)) = some (0xAB#8, 0x0101#16) := by decide

theorem test_ld_H_mHL_reads_before_it_writes :
    look (start [0x66#8] (regs := { RegFile.reset with h := 0xC0#8 }) (cells := [(0xC000, 0x5A#8)]))
      (fun t => (t.regs.h, t.regs.l)) = some (0x5A#8, 0x00#8) := by decide

theorem test_ld_A_mHL_unmapped :
    look (start [0x7E#8] (regs := { RegFile.reset with h := 0xFE#8 })) faultView
      = some (.faulted (.memoryFault 0x0100#16 0xFE00#16 .read), { RegFile.reset with h := 0xFE#8 }, 0xFFFE#16, 0x0100#16) := by decide

theorem test_ld_mHL_H :
    look (start [0x74#8] (regs := { RegFile.reset with h := 0xC0#8, l := 0x10#8 }))
      (fun t => t.mem.read 0xC010) = some 0xC0#8 := by decide

theorem test_ld_mHL_A_rom_ignored :
    look (start [0x77#8] (regs := { RegFile.reset with a := 0x99#8, h := 0x02#8 }))
      (fun t => (t.mem.read 0x0200, t.pc, t.status)) = some (0x00#8, 0x0101#16, .running) := by decide

theorem test_ld_mHL_A_rom_fault :
    look (start [0x77#8] (regs := { RegFile.reset with a := 0x99#8, h := 0x02#8 }) (policy := .fault)) faultView
      = some (.faulted (.memoryFault 0x0100#16 0x0200#16 .write), { RegFile.reset with a := 0x99#8, h := 0x02#8 }, 0xFFFE#16, 0x0100#16) := by decide

theorem test_ld_A_n :
    look (start [0x3E#8, 0x0F#8])
      (fun t => (t.regs.a, t.pc)) = some (0x0F#8, 0x0102#16) := by decide

theorem test_ld_SP_nn :
    look (start [0x31#8, 0xFE#8, 0xFF#8] (sp := 0x0000#16))
      (fun t => (t.sp, t.pc)) = some (0xFFFE#16, 0x0103#16) := by decide

theorem test_ld_HL_nn :
    look (start [0x21#8, 0x00#8, 0xC0#8])
      (fun t => (t.regs.h, t.regs.l, t.pc)) = some (0xC0#8, 0x00#8, 0x0103#16) := by decide

theorem test_ld_mHL_n :
    look (start [0x36#8, 0x5A#8] (regs := { RegFile.reset with h := 0xFF#8, l := 0x80#8 }))
      (fun t => (t.mem.read 0xFF80, t.pc)) = some (0x5A#8, 0x0102#16) := by decide

theorem test_ld_mHL_n_over_its_own_operand :
    look (start [0x36#8, 0x5A#8] (regs := { RegFile.reset with h := 0xC0#8, l := 0x01#8 }) (pc := 0xC000#16))
      (fun t => (t.mem.read 0xC001, t.pc)) = some (0x5A#8, 0xC002#16) := by decide

theorem test_ld_A_mnn :
    look (start [0xFA#8, 0x23#8, 0xC1#8] (cells := [(0xC123, 0x77#8)]))
      (fun t => (t.regs.a, t.pc)) = some (0x77#8, 0x0103#16) := by decide

theorem test_ld_A_mnn_echo :
    look (start [0xFA#8, 0x00#8, 0xE0#8]) faultView
      = some (.faulted (.memoryFault 0x0100#16 0xE000#16 .read), RegFile.reset, 0xFFFE#16, 0x0100#16) := by decide

theorem test_ld_mnn_A :
    look (start [0xEA#8, 0x00#8, 0xD0#8] (regs := { RegFile.reset with a := 0x42#8 }))
      (fun t => (t.mem.read 0xD000, t.pc)) = some (0x42#8, 0x0103#16) := by decide

theorem test_ld_mnn_A_echo :
    look (start [0xEA#8, 0x00#8, 0xE0#8] (regs := { RegFile.reset with a := 0x42#8 })) faultView
      = some (.faulted (.memoryFault 0x0100#16 0xE000#16 .write), { RegFile.reset with a := 0x42#8 }, 0xFFFE#16, 0x0100#16) := by decide

theorem test_ldh_A_mn :
    look (start [0xF0#8, 0x44#8] (cells := [(0xFF44, 0x90#8)]))
      (fun t => (t.regs.a, t.pc)) = some (0x90#8, 0x0102#16) := by decide

theorem test_ldh_A_mn_unmapped :
    look (start [0xF0#8, 0x4C#8]) faultView
      = some (.faulted (.memoryFault 0x0100#16 0xFF4C#16 .read), RegFile.reset, 0xFFFE#16, 0x0100#16) := by decide

theorem test_ldh_mn_A_at_the_last_address :
    look (start [0xE0#8, 0xFF#8] (regs := { RegFile.reset with a := 0x80#8 }))
      (fun t => (t.mem.read 0xFFFF, t.pc)) = some (0x80#8, 0x0102#16) := by decide

theorem test_ld_A_mC :
    look (start [0xF2#8] (regs := { RegFile.reset with c := 0x81#8 }) (cells := [(0xFF81, 0x05#8)]))
      (fun t => (t.regs.a, t.pc)) = some (0x05#8, 0x0101#16) := by decide

theorem test_ld_mC_A :
    look (start [0xE2#8] (regs := { RegFile.reset with a := 0x3C#8, c := 0x10#8 }))
      (fun t => (t.mem.read 0xFF10, t.pc)) = some (0x3C#8, 0x0101#16) := by decide

theorem test_ld_mC_A_unmapped :
    look (start [0xE2#8] (regs := { RegFile.reset with a := 0x3C#8, c := 0x7F#8 })) faultView
      = some (.faulted (.memoryFault 0x0100#16 0xFF7F#16 .write), { RegFile.reset with a := 0x3C#8, c := 0x7F#8 }, 0xFFFE#16, 0x0100#16) := by decide

/-! V-ADD, V-SUB, V-CP, V-LOGIC -/

theorem test_add_A_n_wraps :
    look (start [0xC6#8, 0x01#8] (regs := { RegFile.reset with a := 0xFF#8 }))
      (fun t => (t.regs.a, t.regs.f)) = some (0x00#8, 0xB0#8) := by decide

theorem test_add_A_n_half_carry :
    look (start [0xC6#8, 0x01#8] (regs := { RegFile.reset with a := 0x0F#8 }))
      (fun t => (t.regs.a, t.regs.f)) = some (0x10#8, 0x20#8) := by decide

theorem test_add_A_B_carry_without_half :
    look (start [0x80#8] (regs := { RegFile.reset with a := 0x80#8, b := 0x80#8 }))
      (fun t => (t.regs.a, t.regs.f)) = some (0x00#8, 0x90#8) := by decide

theorem test_add_A_A :
    look (start [0x87#8] (regs := { RegFile.reset with a := 0x88#8 }))
      (fun t => (t.regs.a, t.regs.f)) = some (0x10#8, 0x30#8) := by decide

theorem test_add_A_mHL :
    look (start [0x86#8] (regs := { RegFile.reset with a := 0x12#8, h := 0xC0#8 }) (cells := [(0xC000, 0x34#8)]))
      (fun t => (t.regs.a, t.regs.f)) = some (0x46#8, 0x00#8) := by decide

theorem test_add_A_mHL_unmapped :
    look (start [0x86#8] (regs := { RegFile.reset with a := 0x12#8, h := 0xFF#8, l := 0x50#8 })) faultView
      = some (.faulted (.memoryFault 0x0100#16 0xFF50#16 .read), { RegFile.reset with a := 0x12#8, h := 0xFF#8, l := 0x50#8 }, 0xFFFE#16, 0x0100#16) := by decide

theorem test_sub_n_half_borrow :
    look (start [0xD6#8, 0x01#8] (regs := { RegFile.reset with a := 0x10#8 }))
      (fun t => (t.regs.a, t.regs.f)) = some (0x0F#8, 0x60#8) := by decide

theorem test_sub_n_wraps :
    look (start [0xD6#8, 0x01#8] (regs := { RegFile.reset with a := 0x00#8 }))
      (fun t => (t.regs.a, t.regs.f)) = some (0xFF#8, 0x70#8) := by decide

theorem test_sub_A :
    look (start [0x97#8] (regs := { RegFile.reset with a := 0x5C#8 }))
      (fun t => (t.regs.a, t.regs.f)) = some (0x00#8, 0xC0#8) := by decide

theorem test_sub_B_half_borrow :
    look (start [0x90#8] (regs := { RegFile.reset with a := 0x3E#8, b := 0x0F#8 }))
      (fun t => (t.regs.a, t.regs.f)) = some (0x2F#8, 0x60#8) := by decide

theorem test_sub_B_borrow :
    look (start [0x90#8] (regs := { RegFile.reset with a := 0x3E#8, b := 0x40#8 }))
      (fun t => (t.regs.a, t.regs.f)) = some (0xFE#8, 0x50#8) := by decide

theorem test_cp_n_below :
    look (start [0xFE#8, 0x40#8] (regs := { RegFile.reset with a := 0x3C#8 }))
      (fun t => (t.regs.a, t.regs.f)) = some (0x3C#8, 0x50#8) := by decide

theorem test_cp_n_half_borrow :
    look (start [0xFE#8, 0x2F#8] (regs := { RegFile.reset with a := 0x3C#8 }))
      (fun t => (t.regs.a, t.regs.f)) = some (0x3C#8, 0x60#8) := by decide

theorem test_cp_A :
    look (start [0xBF#8] (regs := { RegFile.reset with a := 0x00#8 }))
      (fun t => (t.regs.a, t.regs.f)) = some (0x00#8, 0xC0#8) := by decide

theorem test_and_n :
    look (start [0xE6#8, 0xF0#8] (regs := { RegFile.reset with a := 0x0F#8, f := 0x50#8 }))
      (fun t => (t.regs.a, t.regs.f)) = some (0x00#8, 0xA0#8) := by decide

theorem test_and_A :
    look (start [0xA7#8] (regs := { RegFile.reset with a := 0x5A#8, f := 0x50#8 }))
      (fun t => (t.regs.a, t.regs.f)) = some (0x5A#8, 0x20#8) := by decide

theorem test_xor_A :
    look (start [0xAF#8] (regs := { RegFile.reset with a := 0x77#8, f := 0x70#8 }))
      (fun t => (t.regs.a, t.regs.f)) = some (0x00#8, 0x80#8) := by decide

theorem test_xor_n :
    look (start [0xEE#8, 0xFF#8] (regs := { RegFile.reset with a := 0x5A#8 }))
      (fun t => (t.regs.a, t.regs.f)) = some (0xA5#8, 0x00#8) := by decide

theorem test_or_B :
    look (start [0xB0#8] (regs := { RegFile.reset with a := 0x00#8, b := 0x00#8, f := 0x70#8 }))
      (fun t => (t.regs.a, t.regs.f)) = some (0x00#8, 0x80#8) := by decide

theorem test_or_n :
    look (start [0xF6#8, 0x0A#8] (regs := { RegFile.reset with a := 0x50#8 }))
      (fun t => (t.regs.a, t.regs.f)) = some (0x5A#8, 0x00#8) := by decide

/-! V-INCDEC -/

theorem test_inc_B_keeps_carry :
    look (start [0x04#8] (regs := { RegFile.reset with b := 0xFF#8, f := 0x10#8 }))
      (fun t => (t.regs.b, t.regs.f)) = some (0x00#8, 0xB0#8) := by decide

theorem test_inc_A :
    look (start [0x3C#8] (regs := { RegFile.reset with a := 0x0F#8, f := 0x40#8 }))
      (fun t => (t.regs.a, t.regs.f)) = some (0x10#8, 0x20#8) := by decide

theorem test_dec_B_wraps :
    look (start [0x05#8] (regs := { RegFile.reset with b := 0x00#8, f := 0x10#8 }))
      (fun t => (t.regs.b, t.regs.f)) = some (0xFF#8, 0x70#8) := by decide

theorem test_dec_B_to_zero :
    look (start [0x05#8] (regs := { RegFile.reset with b := 0x01#8 }))
      (fun t => (t.regs.b, t.regs.f)) = some (0x00#8, 0xC0#8) := by decide

theorem test_dec_E :
    look (start [0x1D#8] (regs := { RegFile.reset with e := 0x10#8 }))
      (fun t => (t.regs.e, t.regs.f)) = some (0x0F#8, 0x60#8) := by decide

theorem test_inc_DE_wraps :
    look (start [0x13#8] (regs := { RegFile.reset with d := 0xFF#8, e := 0xFF#8, f := 0xA0#8 }))
      (fun t => (t.regs.d, t.regs.e, t.regs.f)) = some (0x00#8, 0x00#8, 0xA0#8) := by decide

theorem test_inc_HL :
    look (start [0x23#8] (regs := { RegFile.reset with l := 0xFF#8 }))
      (fun t => (t.regs.h, t.regs.l)) = some (0x01#8, 0x00#8) := by decide

theorem test_inc_SP_wraps :
    look (start [0x33#8] (sp := 0xFFFF#16))
      (fun t => (t.sp, t.pc, t.status)) = some (0x0000#16, 0x0101#16, .running) := by decide

theorem test_dec_BC_wraps :
    look (start [0x0B#8])
      (fun t => (t.regs.b, t.regs.c, t.regs.f)) = some (0xFF#8, 0xFF#8, 0x00#8) := by decide

theorem test_dec_BC :
    look (start [0x0B#8] (regs := { RegFile.reset with b := 0x01#8 }))
      (fun t => (t.regs.b, t.regs.c)) = some (0x00#8, 0xFF#8) := by decide

theorem test_dec_SP_wraps :
    look (start [0x3B#8] (sp := 0x0000#16))
      (fun t => t.sp) = some 0xFFFF#16 := by decide

/-! V-CTRL -/

theorem test_jp_nn :
    look (start [0xC3#8, 0x50#8, 0x01#8])
      (fun t => t.pc) = some 0x0150#16 := by decide

theorem test_jr_e_lowest :
    look (start [0x18#8, 0x80#8] (pc := 0x0300#16))
      (fun t => t.pc) = some 0x0282#16 := by decide

theorem test_jr_e_below_zero :
    look (start [0x18#8, 0xFD#8] (pc := 0x0000#16)) faultView
      = some (.faulted (.memoryFault 0x0000#16 0xFFFF#16 .read), RegFile.reset, 0xFFFE#16, 0x0000#16) := by decide

theorem test_jr_NZ_e_taken :
    look (start [0x20#8, 0xFC#8] (pc := 0x0200#16))
      (fun t => t.pc) = some 0x01FE#16 := by decide

theorem test_jr_NZ_e_not_taken :
    look (start [0x20#8, 0xFC#8] (regs := { RegFile.reset with f := 0x80#8 }) (pc := 0x0200#16))
      (fun t => t.pc) = some 0x0202#16 := by decide

theorem test_jr_Z_e :
    look (start [0x28#8, 0x02#8] (regs := { RegFile.reset with f := 0x80#8 }))
      (fun t => t.pc) = some 0x0104#16 := by decide

theorem test_jr_NC_e_not_taken :
    look (start [0x30#8, 0x02#8] (regs := { RegFile.reset with f := 0x10#8 }))
      (fun t => t.pc) = some 0x0102#16 := by decide

theorem test_jr_C_e :
    look (start [0x38#8, 0x02#8] (regs := { RegFile.reset with f := 0x10#8 }))
      (fun t => t.pc) = some 0x0104#16 := by decide

theorem test_call_nn :
    look (start [0xCD#8, 0x00#8, 0x02#8] (pc := 0x0150#16))
      (fun t => (t.sp, t.mem.read 0xFFFC, t.mem.read 0xFFFD, t.pc)) = some (0xFFFC#16, 0x53#8, 0x01#8, 0x0200#16) := by decide

theorem test_call_nn_return_address_out_of_range :
    look (start [0xCD#8, 0x00#8, 0x02#8] (pc := 0xFFFD#16)) faultView
      = some (.faulted (.memoryFault 0xFFFD#16 0x0000#16 .read), RegFile.reset, 0xFFFE#16, 0xFFFD#16) := by decide

theorem test_ret :
    look (start [0xC9#8] (sp := 0xFFFC#16) (cells := [(0xFFFC, 0x53#8), (0xFFFD, 0x01#8)]))
      (fun t => (t.pc, t.sp)) = some (0x0153#16, 0xFFFE#16) := by decide

theorem test_ret_empty_stack :
    look (start [0xC9#8] (sp := 0xFFFE#16)) faultView
      = some (.faulted (.memoryFault 0x0100#16 0x0000#16 .read), RegFile.reset, 0xFFFE#16, 0x0100#16) := by decide

/-! V-STACK -/

theorem test_push_BC :
    look (start [0xC5#8] (regs := { RegFile.reset with b := 0x12#8, c := 0x34#8 }))
      (fun t => (t.sp, t.mem.read 0xFFFC, t.mem.read 0xFFFD)) = some (0xFFFC#16, 0x34#8, 0x12#8) := by decide

theorem test_push_BC_over_rom :
    look (start [0xC5#8] (regs := { RegFile.reset with b := 0x12#8, c := 0x34#8 }) (sp := 0x0002#16))
      (fun t => (t.sp, t.mem.read 0x0000, t.mem.read 0x0001)) = some (0x0000#16, 0x00#8, 0x00#8) := by decide

theorem test_push_AF :
    look (start [0xF5#8] (regs := { RegFile.reset with a := 0x12#8, f := 0xB0#8 }))
      (fun t => (t.sp, t.mem.read 0xFFFC, t.mem.read 0xFFFD)) = some (0xFFFC#16, 0xB0#8, 0x12#8) := by decide

theorem test_push_HL_faults_and_stores_nothing :
    look (start [0xE5#8] (regs := { RegFile.reset with h := 0xAB#8, l := 0xCD#8 }) (sp := 0xFF81#16))
      (fun t => (t.status, t.sp, t.mem.read 0xFF80)) = some (.faulted (.memoryFault 0x0100#16 0xFF7F#16 .write), 0xFF81#16, 0x00#8) := by decide

theorem test_push_DE_leaves_no_half_store :
    look (start [0xD5#8] (regs := { RegFile.reset with d := 0xAB#8, e := 0xCD#8 }) (sp := 0xFF4D#16))
      (fun t => (t.status, t.mem.read 0xFF4B)) = some (.faulted (.memoryFault 0x0100#16 0xFF4C#16 .write), 0x00#8) := by decide

theorem test_pop_DE :
    look (start [0xD1#8] (sp := 0xFFFC#16) (cells := [(0xFFFC, 0x34#8), (0xFFFD, 0x12#8)]))
      (fun t => (t.regs.d, t.regs.e, t.sp)) = some (0x12#8, 0x34#8, 0xFFFE#16) := by decide

theorem test_pop_AF_masks_the_low_nibble :
    look (start [0xF1#8] (sp := 0xC000#16) (cells := [(0xC000, 0xFF#8), (0xC001, 0x12#8)]))
      (fun t => (t.regs.a, t.regs.f, t.sp)) = some (0x12#8, 0xF0#8, 0xC002#16) := by decide

theorem test_pop_BC_underflow :
    look (start [0xC1#8] (sp := 0xFFFE#16)) faultView
      = some (.faulted (.memoryFault 0x0100#16 0x0000#16 .read), RegFile.reset, 0xFFFE#16, 0x0100#16) := by decide

/-! V-RES, V-MISC and fetch faults -/

theorem test_res_0_A :
    look (start [0xCB#8, 0x87#8] (regs := { RegFile.reset with a := 0xFF#8 }))
      (fun t => (t.regs.a, t.regs.f, t.pc)) = some (0xFE#8, 0x00#8, 0x0102#16) := by decide

theorem test_res_7_A :
    look (start [0xCB#8, 0xBF#8] (regs := { RegFile.reset with a := 0x80#8 }))
      (fun t => (t.regs.a, t.regs.f)) = some (0x00#8, 0x00#8) := by decide

theorem test_res_3_B :
    look (start [0xCB#8, 0x98#8] (regs := { RegFile.reset with b := 0xF7#8 }))
      (fun t => t.regs.b) = some 0xF7#8 := by decide

theorem test_escape_undefined_low :
    look (start [0xCB#8, 0x00#8]) faultView
      = some (.faulted (.decodeFault 0x0100#16 [0xCB#8, 0x00#8]), RegFile.reset, 0xFFFE#16, 0x0100#16) := by decide

theorem test_escape_undefined_mHL :
    look (start [0xCB#8, 0x86#8]) faultView
      = some (.faulted (.decodeFault 0x0100#16 [0xCB#8, 0x86#8]), RegFile.reset, 0xFFFE#16, 0x0100#16) := by decide

theorem test_escape_undefined_set :
    look (start [0xCB#8, 0xC7#8]) faultView
      = some (.faulted (.decodeFault 0x0100#16 [0xCB#8, 0xC7#8]), RegFile.reset, 0xFFFE#16, 0x0100#16) := by decide

theorem test_escape_at_the_end :
    look (start [0xCB#8] (pc := 0xFFFF#16)) faultView
      = some (.faulted (.memoryFault 0xFFFF#16 0x0000#16 .read), RegFile.reset, 0xFFFE#16, 0xFFFF#16) := by decide

theorem test_nop :
    look (start [0x00#8])
      (fun t => (t.pc, t.regs, t.sp)) = some (0x0101#16, RegFile.reset, 0xFFFE#16) := by decide

theorem test_di :
    look (start [0xF3#8] (pc := 0x0150#16))
      (fun t => (t.pc, t.regs, t.sp)) = some (0x0151#16, RegFile.reset, 0xFFFE#16) := by decide

theorem test_nop_at_the_end :
    look (start [0x00#8] (pc := 0xFFFF#16)) faultView
      = some (.faulted (.memoryFault 0xFFFF#16 0x0000#16 .read), RegFile.reset, 0xFFFE#16, 0xFFFF#16) := by decide

theorem test_ld_mHL_A_at_the_end_commits_no_store :
    look (start [0x77#8] (regs := { RegFile.reset with a := 0x99#8, h := 0xC0#8 }) (pc := 0xFFFF#16))
      (fun t => (t.status, t.mem.read 0xC000)) = some (.faulted (.memoryFault 0xFFFF#16 0x0000#16 .read), 0x00#8) := by decide

theorem test_operand_past_the_end :
    look (start [0x3E#8] (pc := 0xFFFF#16)) faultView
      = some (.faulted (.memoryFault 0xFFFF#16 0x0000#16 .read), RegFile.reset, 0xFFFE#16, 0xFFFF#16) := by decide

theorem test_undefined_halt :
    look (start [0x76#8]) faultView
      = some (.faulted (.decodeFault 0x0100#16 [0x76#8]), RegFile.reset, 0xFFFE#16, 0x0100#16) := by decide

theorem test_undefined_ei :
    look (start [0xFB#8]) faultView
      = some (.faulted (.decodeFault 0x0100#16 [0xFB#8]), RegFile.reset, 0xFFFE#16, 0x0100#16) := by decide

theorem test_fetch_from_echo :
    look (start [0x00#8] (pc := 0xE000#16)) faultView
      = some (.faulted (.memoryFault 0xE000#16 0xE000#16 .read), RegFile.reset, 0xFFFE#16, 0xE000#16) := by decide

theorem test_stop_request_goes_first :
    look { start [0x3E#8, 0x0F#8] with stopRequest := true } (fun t => (t.status, t.regs.a, t.pc))
      = some (.stopped, 0x00#8, 0x0100#16) := by decide

/-- The host's word placed at the pc runs as the first instruction after reset. -/
theorem test_withFetchWord :
    look (State.reset.withFetchWord 16 0xCB87) (fun t => (t.pc, t.status)) = some (0x0102#16, .running) ∧
    look (State.reset.withFetchWord 8 0x31) (fun t => (t.sp, t.pc)) = some (0x0000#16, 0x0103#16) := by decide

/-- A store to ROM is an instruction of the open machine too, whichever policy it has (00_scope.md R13). -/
theorem test_withFetchWord_store_to_rom : (look (State.reset.withFetchWord 8 0x77) State.romLoaded).isSome = true := rfl

/-- Before the bank is loaded no step happens (70_reset_and_hazards.md R252). -/
theorem test_reset_is_not_loaded : step State.reset = .refused .romNotLoaded := rfl

/-- A trace record: mnemonic, operands and the resulting pc (60_exceptions.md R236); none at a fault. -/
theorem test_trace :
    traceStep (start [0x18#8, 0x05#8] (pc := 0x0300#16))
      = some { mnemonic := "JR", operands := [.displacement 5], resultingPc := 0x0307#16 } ∧
    traceStep (start [0x76#8]) = none := by decide

/-- What the host observes of a run's steps, but for the report (00_scope.md R8). -/
def runView (host : List Bool) (s : State) : Status × Word × List TraceRecord × Bool :=
  let r := observe host s
  (r.state.status, r.state.pc, r.trace, r.returned)

/-- NOP, then an undefined opcode: one record, and the run returns at the fault (60_exceptions.md R221, R233, R236). -/
theorem test_run_until_a_fault :
    runView [false, false, false] (start [0x00#8, 0x76#8])
      = (.faulted (.decodeFault 0x0101#16 [0x76#8]), 0x0101#16,
        [{ mnemonic := "NOP", operands := [], resultingPc := 0x0101#16 }], true) := by decide

/-- `18 FE` runs until the host stops it (60_exceptions.md R233). -/
theorem test_run_until_the_stop :
    runView [false] (start [0x18#8, 0xFE#8])
      = (.running, 0x0100#16, [{ mnemonic := "JR", operands := [.displacement (-2)], resultingPc := 0x0100#16 }], false) ∧
    runView [true, false] (start [0x18#8, 0xFE#8]) = (.stopped, 0x0100#16, [], true) := by decide

theorem test_run_short_image : run .fault [0x00#8] [false] = .error .shortImage := rfl

theorem test_reset_memory_is_canonical : State.reset.mem.wf := by decide

/-! ## Witnesses: for each obligation with hypotheses, inputs that meet them, at the boundary of each clause -/

/-- A view of the state after executing one instruction. -/
def lookExec {α : Type} (i : Instr) (s : State) (view : State → α) : Option α :=
  match exec i s with
  | .next t => some (view t)
  | .fault _ => none
  | .refused _ => none

theorem next_of_look {α : Type} {s : State} {view : State → α} {v : α} (h : look s view = some v) :
    ∃ t, step s = .next t ∧ view t = v := by
  unfold look at h
  split at h
  · next t ht => exact ⟨t, ht, Option.some.inj h⟩
  · cases h
  · cases h

theorem next_of_lookExec {α : Type} {i : Instr} {s : State} {view : State → α} {v : α}
    (h : lookExec i s view = some v) : ∃ t, exec i s = .next t ∧ view t = v := by
  unfold lookExec at h
  split at h
  · next t ht => exact ⟨t, ht, Option.some.inj h⟩
  · cases h
  · cases h

theorem witness_decode_of_encode :
    (Instr.jr_e (-128)).wellFormed = true ∧ (Instr.jr_NZ_e 127).wellFormed = true ∧ Instr.nop.wellFormed = true := by
  decide

theorem witness_decoded_bytes : decode [0x18#8, 0x80#8, 0xFF#8] = .ok (.jr_e (-128), [0xFF#8]) := rfl

theorem witness_undefined_opcodes :
    0x02#8 ≠ escapeByte ∧ 0x02#8 ∈ undefinedPrimary ∧ 0xFD#8 ∈ undefinedPrimary ∧ undefinedExtended 0x7F#8 = true ∧
    undefinedExtended 0xC0#8 = true ∧ undefinedExtended 0x86#8 = true := by decide

/-- A three-byte instruction in the last three addresses. -/
theorem witness_step_runs :
    ∃ s : State, s.status = .running ∧ s.romLoaded = true ∧ s.stopRequest = false ∧
      codeAt s s.pc.toNat [0xC3#8, 0x50#8, 0x01#8] ∧ decode [0xC3#8, 0x50#8, 0x01#8] = .ok (.jp_nn 0x0150#16, []) :=
  ⟨start [0xC3#8, 0x50#8, 0x01#8] (pc := 0xFFFD#16), rfl, rfl, rfl,
    ⟨by decide, by decide, by decide, by decide, by decide, by decide, by decide, by decide, by decide, trivial⟩, rfl⟩

/-- An Undefined byte at the last address, and an Undefined extended byte there. -/
theorem witness_undefined_raises :
    (∃ s : State, codeAt s s.pc.toNat [0xD3#8] ∧ 0xD3#8 ≠ escapeByte ∧ (decodePrimary 0xD3#8).isNone = true ∧
      s.status = .running ∧ s.romLoaded = true ∧ s.stopRequest = false) ∧
    (∃ s : State, codeAt s s.pc.toNat [escapeByte, 0xC7#8] ∧ (decodeExtended 0xC7#8).isNone = true ∧
      s.status = .running ∧ s.romLoaded = true ∧ s.stopRequest = false) :=
  ⟨⟨start [0xD3#8] (pc := 0xFFFF#16), ⟨by decide, by decide, by decide, trivial⟩, by decide, by decide, rfl, rfl, rfl⟩,
    ⟨start [0xCB#8, 0xC7#8] (pc := 0xFFFE#16), ⟨by decide, by decide, by decide, by decide, by decide, by decide,
      trivial⟩, by decide, rfl, rfl, rfl⟩⟩

/-- An unmapped pc; the escape byte at the last address; a missing first and a missing second operand byte. -/
theorem witness_fetch_faults :
    (∃ s : State, s.status = .running ∧ s.romLoaded = true ∧ s.stopRequest = false ∧ ¬readable s.pc) ∧
    (∃ s : State, s.status = .running ∧ s.romLoaded = true ∧ s.stopRequest = false ∧
      codeAt s s.pc.toNat [escapeByte] ∧ ¬(s.pc.toNat + 1 ≤ 0xFFFF ∧ readable (s.pc + 1))) ∧
    (∃ (s : State) (op : Opcode), s.status = .running ∧ s.romLoaded = true ∧ s.stopRequest = false ∧
      0x3E#8 ≠ escapeByte ∧ decodePrimary 0x3E#8 = some op ∧ codeAt s s.pc.toNat [0x3E#8] ∧ 0 + 1 < op.length ∧
      ¬(s.pc.toNat + 0 + 1 ≤ 0xFFFF ∧ readable (s.pc + 1))) ∧
    (∃ (s : State) (op : Opcode), s.status = .running ∧ s.romLoaded = true ∧ s.stopRequest = false ∧
      0xCD#8 ≠ escapeByte ∧ decodePrimary 0xCD#8 = some op ∧ codeAt s s.pc.toNat [0xCD#8, 0x00#8] ∧ 1 + 1 < op.length ∧
      ¬(s.pc.toNat + 1 + 1 ≤ 0xFFFF ∧ readable (s.pc + 2))) :=
  ⟨⟨start [] (pc := 0xE000#16), rfl, rfl, rfl, by decide⟩,
    ⟨start [0xCB#8] (pc := 0xFFFF#16), rfl, rfl, rfl, ⟨by decide, by decide, by decide, trivial⟩, by decide⟩,
    ⟨start [0x3E#8] (pc := 0xFFFF#16), _, rfl, rfl, rfl, by decide, rfl, ⟨by decide, by decide, by decide, trivial⟩,
      by decide, by decide⟩,
    ⟨start [0xCD#8, 0x00#8] (pc := 0xDFFE#16), _, rfl, rfl, rfl, by decide, rfl, ⟨by decide, by decide, by decide,
      by decide, by decide, by decide, trivial⟩, by decide, by decide⟩⟩

theorem witness_stop_request :
    ∃ s : State, s.status = .running ∧ s.romLoaded = true ∧ s.stopRequest = true :=
  ⟨{ start [0x00#8] with stopRequest := true }, rfl, rfl, rfl⟩

theorem witness_terminal_states :
    (∃ (s : State) (r : FaultRecord), s.status = .faulted r) ∧ (∃ s : State, s.status = .stopped) :=
  ⟨⟨takeFault State.reset (.decodeFault 0x0100#16 [0x76#8]), _, rfl⟩, ⟨State.reset.setStatus .stopped, rfl⟩⟩

theorem witness_running_machine :
    (∃ s : State, s.status = .running ∧ s.romLoaded = true) ∧ (∃ s : State, s.status = .running ∧ s.romLoaded = false) :=
  ⟨⟨start [0x00#8], rfl, rfl⟩, ⟨State.reset, rfl, rfl⟩⟩

theorem witness_fault_commits_nothing :
    ∃ (s t : State) (r : FaultRecord), step s = .next t ∧ t.status = .faulted r :=
  have h : look (start [0x00#8] (pc := 0xFFFF#16)) State.status
      = some (.faulted (.memoryFault 0xFFFF#16 0x0000#16 .read)) := by decide
  have ⟨t, ht, hv⟩ := next_of_look h
  ⟨_, t, _, ht, hv⟩

/-- The next pc is the last address. -/
theorem witness_sequential_pc :
    ∃ s t : State, s.stopRequest = false ∧ fetchInstr s = .ok .nop ∧ step s = .next t ∧ t.status = .running ∧
      Instr.nop.form.transfers = false ∧ t.pc = 0xFFFF#16 :=
  have h : look (start [0x00#8] (pc := 0xFFFE#16)) (fun t => (t.status, t.pc)) = some (.running, 0xFFFF#16) := by decide
  have ⟨t, ht, hv⟩ := next_of_look h
  ⟨start [0x00#8] (pc := 0xFFFE#16), t, rfl, rfl, ht, congrArg Prod.fst hv, rfl, congrArg Prod.snd hv⟩

theorem witness_exec_next : ∃ s t u : State, exec .nop s = .next t ∧ t.status = .running ∧ exec .ret s = .next u :=
  have h : lookExec .nop (start []) State.status = some .running := by decide
  have h' : (lookExec .ret (start []) State.sp) = some 0xFFFE#16 := by decide
  have ⟨t, ht, hv⟩ := next_of_lookExec h
  have ⟨u, hu, _⟩ := next_of_lookExec h'
  ⟨_, t, u, ht, hv, hu⟩

theorem witness_step_keeps_invariant : ∃ s t : State, s.Inv ∧ step s = .next t :=
  have h : look (start [0x04#8] (regs := withRegs 0x12#8 0xF0#8 0xFF#8 0x00#8 0xC0#8 0x00#8)) State.pc
      = some 0x0101#16 := by decide
  have ⟨t, ht, _⟩ := next_of_look h
  ⟨_, t, by decide, ht⟩

/-- A boot of an image whose bytes are all the same, under either policy. -/
theorem boot_of_byte (policy : RomWritePolicy) (b : Byte) :
    ∃ (image : List Byte) (s : State), boot policy image = .ok s ∧ s.status = .running ∧ s.romLoaded = true ∧
      s.stopRequest = false ∧ s.pc = 0x0100#16 ∧ fetchByte s 0 = .ok b := by
  have hl : (List.replicate 16384 b).length = 16384 := List.length_replicate
  have hb : ∀ (k : Nat) (h : k < (List.replicate 16384 b).length), (List.replicate 16384 b)[k] = b :=
    fun k h => List.getElem_replicate h
  generalize List.replicate 16384 b = image at hl hb
  refine ⟨image, _, (boot_eq _ _).trans (if_neg (by omega)), rfl, rfl, rfl, rfl, ?_⟩
  rw [fetchByte_ok _ 0 (show (0x0100#16).toNat + 0 ≤ 0xFFFF by decide)
    (show (regionAt ((0x0100#16).toNat + 0)).kind ≠ .unmapped by decide)]
  show Except.ok (Memory.read (Memory.loadLow [] _) 0x100) = _
  rw [Memory.read_loadLow, List.take_of_length_le (Nat.le_of_eq hl), if_pos (by omega),
    List.getD_eq_getElem _ _ (by omega), hb]

theorem witness_boot (policy : RomWritePolicy) : ∃ (image : List Byte) (s : State), boot policy image = .ok s :=
  have ⟨image, s, h, _⟩ := boot_of_byte policy 0x00#8
  ⟨image, s, h⟩

/-- The first instruction of an image of zeros is a NOP, which executes. -/
theorem boot_then_nop (policy : RomWritePolicy) :
    ∃ (image : List Byte) (s : State), boot policy image = .ok s ∧ s.status = .running ∧ s.romLoaded = true ∧
      s.stopRequest = false ∧ fetchInstr s = .ok .nop ∧ exec .nop s = .next (s.setPc 0x0101#16) := by
  obtain ⟨image, s, hb, h1, h2, h3, h4, h5⟩ := boot_of_byte policy 0x00#8
  refine ⟨image, s, hb, h1, h2, h3, fetchInstr_ok ((fetchForm_of_first_byte h5).trans rfl), ?_⟩
  rw [exec_eq_commit]
  show commit s (advance s 1) = _
  rw [advance_ok s 1 (by rw [h4]; decide), h4]
  rfl

/-- A run that has not ended, whose next instruction executes, under either policy. -/
theorem witness_run_goes_on (policy : RomWritePolicy) :
    ∃ (image : List Byte) (r : RunOutput) (i : Instr) (t : State), run policy image [] = .ok r ∧
      r.state.status = .running ∧ r.state.romLoaded = true ∧ r.state.stopRequest = false ∧
      fetchInstr r.state = .ok i ∧ exec i r.state = .next t ∧ t.status = .running :=
  have ⟨_, s, hb, h1, h2, h3, hf, he⟩ := boot_then_nop policy
  ⟨_, observe [] s, _, _, run_ok [] hb, h1, h2, h3, hf, he, h1⟩

/-- A run that executed one instruction and has its record. -/
theorem witness_run_has_a_record :
    ∃ (image : List Byte) (r : RunOutput) (record : TraceRecord), run .ignore image [false] = .ok r ∧
      r.trace.getLast? = some record := by
  obtain ⟨_, s, hb, h1, h2, h3, hf, he⟩ := boot_then_nop .ignore
  have hs : hostStep false s = .next (s.setPc 0x0101#16) := by
    show step s = _
    rw [step_running h1 h2, runningStep_fetch h3, hf]
    exact he
  refine ⟨_, _, { mnemonic := "NOP", operands := [], resultingPc := 0x0101#16 }, run_ok [false] hb, ?_⟩
  show (runTrace [false] s).getLast? = _
  rw [runTrace_cons _ hs]
  have ht : traceStep s = some { mnemonic := "NOP", operands := [], resultingPc := 0x0101#16 } := by
    rw [traceStep_fetch h1 h2 h3 hf, traceExec_running he h1]
    rfl
  show ((traceStep s).toList ++ []).getLast? = _
  rw [ht]
  rfl

/-- A run that ended in a fault, and one the host stopped. -/
theorem witness_run_ends :
    (∃ (image : List Byte) (r : RunOutput) (record : FaultRecord), run .fault image [false] = .ok r ∧
      r.state.status = .faulted record) ∧
    (∃ (image : List Byte) (r : RunOutput), run .ignore image [true] = .ok r ∧ r.state.status = .stopped) := by
  constructor
  · obtain ⟨_, s, hb, h1, h2, h3, -, h5⟩ := boot_of_byte .fault 0x76#8
    have hs : hostStep false s = .next (takeFault s (.decodeFault s.pc [0x76#8])) := by
      show step s = _
      rw [step_running h1 h2, runningStep_fetch h3, fetchInstr_error ((fetchForm_of_first_byte h5).trans rfl)]
    refine ⟨_, observe [false] s, .decodeFault s.pc [0x76#8], run_ok _ hb, ?_⟩
    show (runLoop [false] s).status = _
    rw [runLoop_cons _ hs]
    rfl
  · obtain ⟨_, s, hb, h1, h2, -⟩ := boot_of_byte .ignore 0x00#8
    have hs : hostStep true s = .next ((requestStop s).setStatus .stopped) := by
      show step (requestStop s) = _
      rw [step_running (s := requestStop s) h1 h2, runningStep, if_pos (requestStop_stopRequest s)]
    refine ⟨_, observe [true] s, run_ok _ hb, ?_⟩
    show (runLoop [true] s).status = _
    rw [runLoop_cons _ hs]
    rfl

/-- A step whose store is to ROM. -/
theorem witness_no_step_changes_rom : ∃ s t : State, step s = .next t ∧ hlAddress s = 0x7FFF#16 ∧ 0x7FFF < 0x8000 :=
  have h : look (start [0x77#8] (regs := withRegs 0x99#8 0x00#8 0x00#8 0x00#8 0x7F#8 0xFF#8)) State.pc
      = some 0x0101#16 := by decide
  have ⟨t, ht, _⟩ := next_of_look h
  ⟨_, t, ht, by decide, by decide⟩

theorem witness_switchable_bank :
    (start []).Inv ∧ regionOf 0x4000#16 = .rom1 ∧ regionOf 0x7FFF#16 = .rom1 := by decide

theorem witness_boot_places : 16384 ≤ (List.replicate 16384 0x00#8).length ∧ 16383 < 16384 :=
  ⟨Nat.le_of_eq List.length_replicate.symm, by decide⟩

theorem witness_load_fixed_bank :
    State.reset.romLoaded = false ∧ (List.replicate 16384 0x00#8).length = 16384 ∧
    (List.replicate 16385 0x00#8).length ≠ 16384 ∧ (List.replicate 16383 0x00#8).length < 16384 := by
  rw [List.length_replicate, List.length_replicate, List.length_replicate]
  decide

/-- Every region's first and last address. -/
theorem witness_regions :
    regionAt 0x3FFF = .rom0 ∧ regionAt 0x4000 = .rom1 ∧ regionAt 0x7FFF = .rom1 ∧ regionAt 0x8000 = .vram ∧
    regionAt 0x9FFF = .vram ∧ regionAt 0xA000 = .eram ∧ regionAt 0xBFFF = .eram ∧ regionAt 0xC000 = .wram ∧
    regionAt 0xDFFF = .wram ∧ regionAt 0xE000 = .unmapped1 ∧ regionAt 0xFEFF = .unmapped1 ∧ regionAt 0xFF00 = .io ∧
    regionAt 0xFF4B = .io ∧ regionAt 0xFF4C = .unmapped2 ∧ regionAt 0xFF7F = .unmapped2 ∧ regionAt 0xFF80 = .hram ∧
    regionAt 0xFFFF = .hram := by decide

theorem witness_unmapped_addresses :
    (0xE000 ≤ (0xE000#16).toNat ∧ (0xE000#16).toNat ≤ 0xFEFF) ∧
    (0xE000 ≤ (0xFEFF#16).toNat ∧ (0xFEFF#16).toNat ≤ 0xFEFF) ∧
    (0xFF4C ≤ (0xFF4C#16).toNat ∧ (0xFF4C#16).toNat ≤ 0xFF7F) ∧
    (0xFF4C ≤ (0xFF7F#16).toNat ∧ (0xFF7F#16).toNat ≤ 0xFF7F) := by decide

theorem witness_storable :
    storable 0x8000#16 ∧ storable 0x9FFF#16 ∧ storable 0xA000#16 ∧ storable 0xDFFF#16 ∧ storable 0xFF00#16 ∧
    storable 0xFF4B#16 ∧ storable 0xFF80#16 ∧ storable 0xFFFF#16 := by decide

theorem witness_rom_write :
    (0x7FFF#16).toNat ≤ 0x7FFF ∧ (start []).config.romWritePolicy = .ignore ∧
    (start [] (policy := .fault)).config.romWritePolicy = .fault := by decide

/-- One address for each clause of a word read. -/
theorem witness_word_read :
    ¬readable 0xFEFF#16 ∧ readable 0xFFFF#16 ∧
    (readable 0xDFFF#16 ∧ 0xDFFF#16 ≠ 0xFFFF#16 ∧ ¬readable (0xDFFF#16 + 1)) ∧
    (readable 0xFFFE#16 ∧ 0xFFFE#16 ≠ 0xFFFF#16 ∧ readable (0xFFFE#16 + 1)) := by decide

/-- The last two addresses, and two bytes in different regions. -/
theorem witness_word_round_trip :
    (0xFFFE#16 ≠ 0xFFFF#16 ∧ storable 0xFFFE#16 ∧ storable (0xFFFE#16 + 1)) ∧
    (storable 0x9FFF#16 ∧ storable (0x9FFF#16 + 1)) := by decide

/-- HL at the last address, C at the first offset of HRAM. -/
def storing : State := start [] (regs := withRegs 0x99#8 0x00#8 0x12#8 0x80#8 0xFF#8 0xFF#8)

/-- Each storing form, its byte or bytes where there is storage; the later fetch is of the opcode (k = 0) or of the
operand byte after it (k = 1). -/
theorem witness_fetch_sees_the_store :
    (∃ t, exec (Form.ldMemReg .A).toInstr storing = .next t ∧ t.status = .running) ∧
    (∃ t, exec (Form.ldMemImm 0x76#8).toInstr storing = .next t ∧ t.status = .running) ∧
    (∃ t, exec (Form.ldDirectA 0x8000#16).toInstr storing = .next t ∧ t.status = .running) ∧
    (∃ t, exec (Form.ldhOffsetA 0x4B#8).toInstr storing = .next t ∧ t.status = .running) ∧
    (∃ t, exec Form.ldIndexCA.toInstr storing = .next t ∧ t.status = .running) ∧
    (∃ t, exec (Form.push .BC).toInstr storing = .next t ∧ t.status = .running) ∧
    (∃ t, exec (Form.call 0x0200#16).toInstr storing = .next t ∧ t.status = .running) ∧
    (0xFFFF#16, 0x99#8) ∈ (Form.ldMemReg .A).stores storing ∧ (0xFFFF#16, 0x76#8) ∈ (Form.ldMemImm 0x76#8).stores storing ∧
    (0x8000#16, 0x99#8) ∈ (Form.ldDirectA 0x8000#16).stores storing ∧
    (0xFF4B#16, 0x99#8) ∈ (Form.ldhOffsetA 0x4B#8).stores storing ∧ (0xFF80#16, 0x99#8) ∈ Form.ldIndexCA.stores storing ∧
    (0xFFFC#16, 0x80#8) ∈ (Form.push .BC).stores storing ∧ (0xFFFD#16, 0x12#8) ∈ (Form.push .BC).stores storing ∧
    (0xFFFC#16, 0x03#8) ∈ (Form.call 0x0200#16).stores storing ∧
    (0xFFFD#16, 0x01#8) ∈ (Form.call 0x0200#16).stores storing ∧
    storable 0x8000#16 ∧ storable 0xFF4B#16 ∧ storable 0xFF80#16 ∧ storable 0xFFFC#16 ∧ storable 0xFFFD#16 ∧
    storable 0xFFFF#16 ∧
    (start [] (pc := 0xFFFF#16)).pc.toNat + 0 = (0xFFFF#16).toNat ∧
    (start [] (pc := 0xFFFE#16)).pc.toNat + 1 = (0xFFFF#16).toNat :=
  ⟨next_of_lookExec (by decide), next_of_lookExec (by decide), next_of_lookExec (by decide),
    next_of_lookExec (by decide), next_of_lookExec (by decide), next_of_lookExec (by decide),
    next_of_lookExec (by decide), by decide⟩

/-- For each length, the last pc from which the next pc is in the address space. -/
theorem witness_next_pc :
    (start [] (pc := 0xFFFE#16)).pc.toNat + 1 ≤ 0xFFFF ∧ (start [] (pc := 0xFFFD#16)).pc.toNat + 2 ≤ 0xFFFF ∧
    (start [] (pc := 0xFFFC#16)).pc.toNat + 3 ≤ 0xFFFF := by decide

/-- Loads from memory: (HL) at the last address of WRAM, a direct address, and the offsets beside the unmapped ones. -/
theorem witness_loads_from_memory :
    readable (wordOf 0xDF#8 0xFF#8) ∧ readable 0xFFFF#16 ∧ ¬(0x4C ≤ (0x4B#8).toNat ∧ (0x4B#8).toNat ≤ 0x7F) ∧
    ¬(0x4C ≤ (0x80#8).toNat ∧ (0x80#8).toNat ≤ 0x7F) ∧ (start [] (pc := 0xFFFC#16)).pc.toNat + 3 ≤ 0xFFFF := by decide

/-- Stores: to storage, and to ROM under Ignore. -/
theorem witness_stores :
    acceptsWrite (start [] (pc := 0xFFFC#16)) 0x8000#16 ∧ acceptsWrite (start [] (pc := 0xFFFC#16)) 0x7FFF#16 ∧
    acceptsWrite (start [] (regs := withRegs 0x00#8 0x00#8 0x00#8 0x00#8 0xFF#8 0xFF#8) (policy := .fault))
      (hlAddress (start [] (regs := withRegs 0x00#8 0x00#8 0x00#8 0x00#8 0xFF#8 0xFF#8) (policy := .fault))) := by decide

/-- Each kind of destination: a register, a pair, SP, a byte of storage and an ignored byte of ROM. -/
theorem witness_load_writes_one_destination :
    (∃ t, exec .ld_B_C (start [] (pc := 0xFFFE#16)) = .next t ∧ t.status = .running) ∧
    (∃ t, exec (.ld_BC_nn 0x1234#16) (start [] (pc := 0xFFFC#16)) = .next t ∧ t.status = .running) ∧
    (∃ t, exec (.ld_SP_nn 0x1234#16) (start [] (pc := 0xFFFC#16)) = .next t ∧ t.status = .running) ∧
    (∃ t, exec .ld_mHL_A storing = .next t ∧ t.status = .running) ∧
    (∃ t, exec (.ld_mnn_A 0x7FFF#16) storing = .next t ∧ t.status = .running) ∧
    Instr.ld_B_C.form.isLoad = true ∧ (Instr.ld_BC_nn 0x1234#16).form.isLoad = true ∧
    (Instr.ld_SP_nn 0x1234#16).form.isLoad = true ∧ Instr.ld_mHL_A.form.isLoad = true ∧
    (Instr.ld_mnn_A 0x7FFF#16).form.isLoad = true ∧ (start [] (pc := 0xFFFE#16)).status = .running ∧
    storing.status = .running :=
  ⟨next_of_lookExec (by decide), next_of_lookExec (by decide), next_of_lookExec (by decide),
    next_of_lookExec (by decide), next_of_lookExec (by decide), by decide⟩

theorem witness_unreadable_operand :
    ¬readable (hlAddress (start [] (regs := withRegs 0x00#8 0x00#8 0x00#8 0x4C#8 0xFE#8 0xFF#8))) ∧
    ¬readable 0xE000#16 ∧ 0x4C ≤ (0x4C#8).toNat ∧ (0x4C#8).toNat ≤ 0x7F ∧ 0x4C ≤ (0x7F#8).toNat ∧
    (0x7F#8).toNat ≤ 0x7F ∧
    0x4C ≤ (start [] (regs := withRegs 0x00#8 0x00#8 0x00#8 0x7F#8 0xFE#8 0xFF#8)).regs.c.toNat ∧
    (start [] (regs := withRegs 0x00#8 0x00#8 0x00#8 0x7F#8 0xFE#8 0xFF#8)).regs.c.toNat ≤ 0x7F := by decide

theorem witness_unaccepted_store :
    ¬acceptsWrite (start [] (policy := .fault)) (hlAddress (start [] (policy := .fault))) ∧
    ¬acceptsWrite (start []) 0xE000#16 ∧ ¬acceptsWrite (start [] (policy := .fault)) 0x7FFF#16 := by decide

/-- Each kind of source at the last pc from which the operation completes. -/
theorem witness_accumulator :
    (sourceReadable (start [] (pc := 0xFFFE#16)) (.reg .B) ∧
      (start [] (pc := 0xFFFE#16)).pc.toNat + sourceLength (.reg .B) ≤ 0xFFFF) ∧
    (sourceReadable (start [] (pc := 0xFFFE#16)) .mHL ∧
      (start [] (pc := 0xFFFE#16)).pc.toNat + sourceLength .mHL ≤ 0xFFFF) ∧
    (sourceReadable (start [] (pc := 0xFFFD#16)) (.imm 0x01#8) ∧
      (start [] (pc := 0xFFFD#16)).pc.toNat + sourceLength (.imm 0x01#8) ≤ 0xFFFF) := by decide

/-- Targets 0x0000 and 0xFFFF, a condition that holds and one that does not. -/
theorem witness_jumps :
    (0 ≤ ((start [] (pc := 0x0000#16)).pc.toNat : Int) + 2 + (-2) ∧
      ((start [] (pc := 0x0000#16)).pc.toNat : Int) + 2 + (-2) ≤ 0xFFFF) ∧
    (0 ≤ ((start [] (pc := 0xFFFD#16)).pc.toNat : Int) + 2 + 0 ∧
      ((start [] (pc := 0xFFFD#16)).pc.toNat : Int) + 2 + 0 ≤ 0xFFFF) ∧
    (start [] (pc := 0xFFFD#16)).condHolds .NZ = true ∧ (start [] (pc := 0xFFFD#16)).condHolds .C = false ∧
    (start [] (pc := 0xFFFD#16)).pc.toNat + 2 ≤ 0xFFFF := by decide

/-- Targets −1 and 0x10000, and an untaken jump at 0xFFFE. -/
theorem witness_relative_jump_faults :
    ¬(0 ≤ ((start [] (pc := 0x0000#16)).pc.toNat : Int) + 2 + (-3) ∧
      ((start [] (pc := 0x0000#16)).pc.toNat : Int) + 2 + (-3) ≤ 0xFFFF) ∧
    ¬(0 ≤ ((start [] (pc := 0xFFFD#16)).pc.toNat : Int) + 2 + 1 ∧
      ((start [] (pc := 0xFFFD#16)).pc.toNat : Int) + 2 + 1 ≤ 0xFFFF) ∧
    (start [] (pc := 0x0000#16)).condHolds .NC = true ∧ (start [] (pc := 0xFFFE#16)).condHolds .Z = false ∧
    0xFFFF < (start [] (pc := 0xFFFE#16)).pc.toNat + 2 := by decide

/-- The lowest SP a push accepts (its bytes are ROM under Ignore), and one with storage below it. -/
theorem witness_call_and_push :
    ((start [] (sp := 0x0002#16) (pc := 0xFFFC#16)).pc.toNat + 3 ≤ 0xFFFF ∧
      2 ≤ (start [] (sp := 0x0002#16)).sp.toNat ∧
      acceptsWrite (start [] (sp := 0x0002#16)) ((start [] (sp := 0x0002#16)).sp - 2) ∧
      acceptsWrite (start [] (sp := 0x0002#16)) ((start [] (sp := 0x0002#16)).sp - 1)) ∧
    (acceptsWrite (start [] (pc := 0xFFFC#16)) ((start []).sp - 2) ∧
      acceptsWrite (start [] (pc := 0xFFFC#16)) ((start []).sp - 1)) := by decide

/-- The highest SP a pop accepts. -/
theorem witness_ret_and_pop :
    (start [] (sp := 0xFFFD#16) (pc := 0xFFFE#16)).sp.toNat + 2 ≤ 0xFFFF ∧
    (start [] (sp := 0xFFFD#16) (pc := 0xFFFE#16)).pc.toNat + 1 ≤ 0xFFFF ∧
    readable (start [] (sp := 0xFFFD#16)).sp ∧ readable ((start [] (sp := 0xFFFD#16)).sp + 1) := by decide

/-- The callee is the state after the call, which changed nothing. -/
theorem witness_return_goes_back :
    ∃ s t u : State, s.pc.toNat + 3 ≤ 0xFFFF ∧ 2 ≤ s.sp.toNat ∧ storable (s.sp - 2) ∧ storable (s.sp - 1) ∧
      exec (Form.call 0x0200#16).toInstr s = .next t ∧ u.sp = t.sp ∧
      u.mem.read t.sp.toNat = t.mem.read t.sp.toNat ∧
      u.mem.read (t.sp.toNat + 1) = t.mem.read (t.sp.toNat + 1) :=
  have h : lookExec (Form.call 0x0200#16).toInstr (start [] (pc := 0xFFFC#16)) State.pc = some 0x0200#16 := by decide
  have ⟨t, ht, _⟩ := next_of_lookExec h
  ⟨start [] (pc := 0xFFFC#16), t, t, by decide, by decide, by decide, by decide, ht, rfl, rfl, rfl⟩

theorem witness_pop_after_push :
    (start [] (regs := withRegs 0x12#8 0xB0#8 0x00#8 0x00#8 0x00#8 0x00#8) (pc := 0xFFFD#16)).Inv ∧
    (start [] (pc := 0xFFFD#16)).pc.toNat + 2 ≤ 0xFFFF ∧ 2 ≤ (start []).sp.toNat ∧ storable ((start []).sp - 2) ∧
    storable ((start []).sp - 1) := by decide

/-- One state for each clause: SP 1; the low byte unmapped; only the high byte unmapped; CALL at 0xFFFD; a pop at an
unmapped byte, one whose second byte is unmapped, and SP 0xFFFE. -/
theorem witness_stack_faults :
    (start [] (sp := 0x0001#16)).sp.toNat < 2 ∧
    (2 ≤ (start [] (sp := 0xFF81#16)).sp.toNat ∧
      ¬acceptsWrite (start [] (sp := 0xFF81#16)) ((start [] (sp := 0xFF81#16)).sp - 2)) ∧
    (acceptsWrite (start [] (sp := 0xFF4D#16)) ((start [] (sp := 0xFF4D#16)).sp - 2) ∧
      ¬acceptsWrite (start [] (sp := 0xFF4D#16)) ((start [] (sp := 0xFF4D#16)).sp - 1)) ∧
    0xFFFF < (start [] (pc := 0xFFFD#16)).pc.toNat + 3 ∧
    ¬readable (start [] (sp := 0xFF4C#16)).sp ∧
    (readable (start [] (sp := 0xDFFF#16)).sp ∧ (start [] (sp := 0xDFFF#16)).sp.toNat < 0xFFFE ∧
      ¬readable ((start [] (sp := 0xDFFF#16)).sp + 1)) ∧
    0xFFFE ≤ (start []).sp.toNat ∧ (start []).pc.toNat + 3 ≤ 0xFFFF := by decide

/-- A form that accesses nothing, a read, a store to storage, a push and a pop, at the first pc that is too high. -/
theorem witness_next_pc_past_the_end :
    (Instr.nop.form.transfers = false ∧ Instr.nop.form.AccessesSucceed (start [] (pc := 0xFFFF#16)) ∧
      0xFFFF < (start [] (pc := 0xFFFF#16)).pc.toNat + Instr.nop.length) ∧
    (Instr.res_0_A.form.transfers = false ∧ Instr.res_0_A.form.AccessesSucceed (start [] (pc := 0xFFFE#16)) ∧
      0xFFFF < (start [] (pc := 0xFFFE#16)).pc.toNat + Instr.res_0_A.length) ∧
    (Instr.add_A_mHL.form.transfers = false ∧ Instr.add_A_mHL.form.AccessesSucceed (start [] (pc := 0xFFFF#16)) ∧
      0xFFFF < (start [] (pc := 0xFFFF#16)).pc.toNat + Instr.add_A_mHL.length) ∧
    ((Instr.ld_mnn_A 0xFFFF#16).form.transfers = false ∧
      (Instr.ld_mnn_A 0xFFFF#16).form.AccessesSucceed (start [] (pc := 0xFFFD#16)) ∧
      0xFFFF < (start [] (pc := 0xFFFD#16)).pc.toNat + (Instr.ld_mnn_A 0xFFFF#16).length) ∧
    (Instr.push_BC.form.transfers = false ∧
      Instr.push_BC.form.AccessesSucceed (start [] (sp := 0x0002#16) (pc := 0xFFFF#16)) ∧
      0xFFFF < (start [] (pc := 0xFFFF#16)).pc.toNat + Instr.push_BC.length) ∧
    (Instr.pop_AF.form.transfers = false ∧
      Instr.pop_AF.form.AccessesSucceed (start [] (sp := 0xFFFD#16) (pc := 0xFFFF#16)) ∧
      0xFFFF < (start [] (pc := 0xFFFF#16)).pc.toNat + Instr.pop_AF.length) :=
  ⟨⟨rfl, ⟨List.forall_mem_nil _, List.forall_mem_nil _, by decide⟩, by decide⟩,
    ⟨rfl, ⟨List.forall_mem_nil _, List.forall_mem_nil _, by decide⟩, by decide⟩,
    ⟨rfl, ⟨List.forall_mem_singleton.2 (by decide), List.forall_mem_nil _, by decide⟩, by decide⟩,
    ⟨rfl, ⟨List.forall_mem_nil _, List.forall_mem_singleton.2 (by decide), by decide⟩, by decide⟩,
    ⟨rfl, ⟨List.forall_mem_nil _, List.forall_mem_cons.2 ⟨by decide, List.forall_mem_singleton.2 (by decide)⟩,
      by decide⟩, by decide⟩,
    ⟨rfl, ⟨List.forall_mem_cons.2 ⟨by decide, List.forall_mem_singleton.2 (by decide)⟩, List.forall_mem_nil _,
      by decide⟩, by decide⟩⟩

/-- LD B,C is none of the listed instructions and INC B is one. -/
theorem witness_flag_writers :
    ∃ s t u : State, exec .ld_B_C s = .next t ∧ exec .inc_B s = .next u ∧ Instr.inc_B.form = .incReg .B ∧
      (∀ op src, Instr.ld_B_C.form ≠ .alu op src) ∧ (∀ r, Instr.ld_B_C.form ≠ .incReg r) ∧
      (∀ r, Instr.ld_B_C.form ≠ .decReg r) ∧ Instr.ld_B_C.form ≠ .pop .AF :=
  have h : lookExec .ld_B_C (start []) State.pc = some 0x0101#16 := by decide
  have h' : lookExec .inc_B (start []) State.pc = some 0x0101#16 := by decide
  have ⟨t, ht, _⟩ := next_of_lookExec h
  have ⟨u, hu, _⟩ := next_of_lookExec h'
  ⟨_, t, u, ht, hu, rfl, fun _ _ => Form.noConfusion, fun _ => Form.noConfusion, fun _ => Form.noConfusion,
    Form.noConfusion⟩

/-- A form of each frame, completing. -/
theorem witness_frames :
    (∃ t, exec (Form.ldRegMem .B).toInstr (start []) = .next t ∧ t.status = .running) ∧
    (∃ t, exec (Form.alu .add .mHL).toInstr (start []) = .next t ∧ t.status = .running) ∧
    (∃ t, exec Form.ldIndexCA.toInstr (start []) = .next t ∧ t.status = .running) ∧
    (∃ t, exec (Form.push .AF).toInstr (start []) = .next t ∧ t.status = .running) ∧
    (∃ t, exec (Form.res 7 .L).toInstr (start []) = .next t ∧ t.status = .running) :=
  ⟨next_of_lookExec (by decide), next_of_lookExec (by decide), next_of_lookExec (by decide),
    next_of_lookExec (by decide), next_of_lookExec (by decide)⟩

theorem witness_fault_report :
    (∃ (s : State) (r : FaultRecord), s.status = .faulted r) ∧ (∃ s : State, s.status = .running) ∧
    (∃ s : State, s.status = .stopped) :=
  ⟨⟨takeFault State.reset (.memoryFault 0x0100#16 0xE000#16 .read), _, rfl⟩, ⟨State.reset, rfl⟩,
    ⟨State.reset.setStatus .stopped, rfl⟩⟩

/-- One instruction that executes and one that faults. -/
theorem witness_trace_record :
    ∃ (s t u : State) (r : FaultRecord), s.status = .running ∧ exec .nop s = .next t ∧ t.status = .running ∧
      exec .ret s = .next u ∧ u.status = .faulted r :=
  have h : lookExec .nop (start []) State.status = some .running := by decide
  have h' : lookExec .ret (start []) State.status = some (.faulted (.memoryFault 0x0100#16 0x0000#16 .read)) := by decide
  have ⟨t, ht, hv⟩ := next_of_lookExec h
  have ⟨u, hu, hw⟩ := next_of_lookExec h'
  ⟨_, t, u, _, rfl, ht, hv, hu, hw⟩

end Sys2Proof.Tests
end

section
/-! The control part of a state: what no instruction writes. -/

namespace Sys2Proof.Machine

/-- The run status, the stop request, the loaded flag and the configuration: the part of the state that no instruction
writes (10_state.md R50, R51, R56). -/
def State.control (s : State) : Status × Bool × Bool × Config := (s.status, s.stopRequest, s.romLoaded, s.config)

theorem State.control_eq_iff {s t : State} :
    t.control = s.control ↔
      t.status = s.status ∧ t.stopRequest = s.stopRequest ∧ t.romLoaded = s.romLoaded ∧ t.config = s.config := by
  simp [State.control]

@[simp] theorem State.control_setSp (s : State) (v : Word) : (s.setSp v).control = s.control := rfl

@[simp] theorem State.control_setPc (s : State) (v : Word) : (s.setPc v).control = s.control := rfl

@[simp] theorem State.control_setMem (s : State) (m : Memory) : (s.setMem m).control = s.control := rfl

@[simp] theorem State.control_writePair (s : State) (dd : DPair) (v : Word) :
    (s.writePair dd v).control = s.control := by
  simp [State.control]

@[simp] theorem State.control_writeStackPair (s : State) (qq : QPair) (v : Word) :
    (s.writeStackPair qq v).control = s.control := by
  simp [State.control]

/-! ## The shared operations -/

theorem control_of_advance {s u t : State} {l : Nat} (h : advance u l = .ok t) (hu : u.control = s.control) :
    t.control = s.control := by
  obtain ⟨-, rfl⟩ := advance_cases h
  exact hu

/-- An instruction that reads something first, and then updates the state and moves on. -/
theorem control_of_read_advance {α : Type} {x : Except FaultRecord α} {update : α → State} {s t : State} {l : Nat}
    (h : (x >>= fun v => advance (update v) l) = .ok t) (hu : ∀ v, (update v).control = s.control) :
    t.control = s.control := by
  obtain ⟨v, -, hv⟩ := bind_ok h
  exact control_of_advance hv (hu v)

theorem writeU8_control {s t : State} {a : Word} {v : Byte} (h : writeU8 s a v = .ok t) : t.control = s.control := by
  obtain ⟨-, rfl⟩ := writeU8_ok_iff.mp h
  exact s.control_setMem _

theorem push16_control {s t : State} {v : Word} (h : push16 s v = .ok t) : t.control = s.control := by
  obtain ⟨-, u, hu, rfl⟩ := push16_cases h
  obtain ⟨-, w, hlo, hhi⟩ := writeU16_cases hu
  calc (u.setSp _).control = u.control := u.control_setSp _
    _ = w.control := writeU8_control hhi
    _ = s.control := writeU8_control hlo

theorem pop16_control {s t : State} {v : Word} (h : pop16 s = .ok (v, t)) : t.control = s.control := by
  obtain ⟨-, -, rfl⟩ := pop16_cases h
  exact s.control_setSp _

/-- An instruction that stores a byte and moves on. -/
theorem control_of_store_advance {s t : State} {a : Word} {v : Byte} {l : Nat}
    (h : (writeU8 s a v >>= fun u => advance u l) = .ok t) : t.control = s.control := by
  obtain ⟨u, hw, ha⟩ := bind_ok h
  exact control_of_advance ha (writeU8_control hw)

/-! ## The instructions -/

theorem aluEffect_control {op : AluOp} {src : Src} {s t : State} (h : aluEffect op src s = .ok t) :
    t.control = s.control := by
  cases op <;> exact control_of_read_advance h fun _ => rfl

theorem jumpRelative_control {e : Int} {s t : State} (h : jumpRelative e s = .ok t) : t.control = s.control := by
  obtain ⟨target, -, ht⟩ := bind_ok h
  exact Except.ok.inj ht ▸ s.control_setPc target

theorem jrCond_control {cc : Cond} {e : Int} {s t : State} (h : jrCond cc e s = .ok t) : t.control = s.control := by
  unfold jrCond at h
  split at h
  · exact jumpRelative_control h
  · exact control_of_advance h rfl

theorem call_control {nn : Word} {s t : State} (h : call nn s = .ok t) : t.control = s.control := by
  obtain ⟨back, -, h⟩ := bind_ok h
  obtain ⟨u, hp, ht⟩ := bind_ok h
  exact Except.ok.inj ht ▸ (u.control_setPc nn).trans (push16_control hp)

theorem ret_control {s t : State} (h : ret s = .ok t) : t.control = s.control := by
  obtain ⟨⟨v, u⟩, hp, ht⟩ := bind_ok h
  exact Except.ok.inj ht ▸ (u.control_setPc v).trans (pop16_control hp)

theorem push_control {qq : QPair} {s t : State} (h : push qq s = .ok t) : t.control = s.control := by
  obtain ⟨u, hp, ha⟩ := bind_ok h
  exact control_of_advance ha (push16_control hp)

theorem pop_control {qq : QPair} {s t : State} (h : pop qq s = .ok t) : t.control = s.control := by
  obtain ⟨⟨v, u⟩, hp, ha⟩ := bind_ok h
  exact control_of_advance ha ((u.control_writeStackPair qq v).trans (pop16_control hp))

/-- An instruction that raises nothing leaves the control part as it was. -/
theorem effect_control {f : Form} {s t : State} (h : effect f s = .ok t) : t.control = s.control := by
  cases f with
  | ldRegReg | ldRegImm | incReg | decReg | res | nop | di => exact control_of_advance h rfl
  | ldPairImm | incPair | decPair => exact control_of_advance h (s.control_writePair _ _)
  | ldRegMem | ldADirect | ldhAOffset | ldAIndexC => exact control_of_read_advance h fun _ => rfl
  | ldMemReg | ldMemImm | ldDirectA | ldhOffsetA | ldIndexCA => exact control_of_store_advance h
  | alu => exact aluEffect_control h
  | jp nn => exact Except.ok.inj h ▸ s.control_setPc nn
  | jrCond => exact jrCond_control h
  | jr => exact jumpRelative_control h
  | call => exact call_control h
  | ret => exact ret_control h
  | push => exact push_control h
  | pop => exact pop_control h

/-- What exec can do to the control part: nothing, or it takes a fault, which changes the status alone. -/
theorem exec_control {i : Instr} {s t : State} (h : exec i s = .next t) :
    t.control = s.control ∨ ∃ r, t = takeFault s r :=
  (exec_cases h).imp effect_control fun ⟨r, _, ht⟩ => ⟨r, ht⟩

/-! ## The step -/

/-- No step writes the loaded flag or the configuration (20_memory.md R84, 10_state.md R56). -/
theorem step_romLoaded_config {s t : State} (h : step s = .next t) :
    t.romLoaded = s.romLoaded ∧ t.config = s.config := by
  obtain ⟨-, -, ⟨-, rfl⟩ | ⟨-, r, -, rfl⟩ | ⟨-, i, -, hx⟩⟩ := step_cases h
  · exact ⟨rfl, rfl⟩
  · exact ⟨rfl, rfl⟩
  · obtain hc | ⟨r, rfl⟩ := exec_control hx
    · exact (State.control_eq_iff.mp hc).2.2
    · exact ⟨rfl, rfl⟩

/-- A running machine with the stop requested takes no instruction (60_exceptions.md R232). -/
theorem step_stop {s : State} (h : s.status = .running) (hl : s.romLoaded = true) (hr : s.stopRequest = true) :
    step s = .next (s.setStatus .stopped) := by
  rw [step_running h hl, runningStep, if_pos hr]

/-- Before the bank is loaded no step happens (70_reset_and_hazards.md R252; log entry 3). -/
theorem step_not_loaded {s : State} (h : s.status = .running) (hl : s.romLoaded = false) :
    step s = .refused .romNotLoaded := by
  simp [step, interpStep, h, hl]

/-- With the stop requested no record is emitted (60_exceptions.md R232, R236). -/
theorem traceStep_stop {s : State} (hr : s.stopRequest = true) : traceStep s = none :=
  if_neg (by simp [hr])

/-- A fetch that faults emits no record (60_exceptions.md R226, R236). -/
theorem traceStep_fetch_error {s : State} {r : FaultRecord} (hf : fetchInstr s = .error r) : traceStep s = none := by
  unfold traceStep
  split
  · rw [hf]
  · rfl

/-- Every step either goes on and emits a record with the resulting pc, or ends the run, emits none and leaves the pc
(60_exceptions.md R226, R232, R236). -/
theorem step_trace {s t : State} (h : step s = .next t) :
    (t.status = .running ∧ ∃ record, traceStep s = some record ∧ record.resultingPc = t.pc) ∨
    (t.status ≠ .running ∧ traceStep s = none ∧ t.pc = s.pc) := by
  obtain ⟨hs, hl, ⟨hr, rfl⟩ | ⟨-, r, hf, rfl⟩ | ⟨hr, i, hf, hx⟩⟩ := step_cases h
  · exact .inr ⟨by simp, traceStep_stop hr, rfl⟩
  · exact .inr ⟨by simp, traceStep_fetch_error hf, rfl⟩
  · rw [traceStep_fetch hs hl hr hf]
    obtain hc | ⟨r, rfl⟩ := exec_control hx
    · have ht : t.status = .running := (State.control_eq_iff.mp hc).1.trans hs
      exact .inl ⟨ht, _, traceExec_running hx ht, rfl⟩
    · exact .inr ⟨by simp, traceExec_faulted hx (takeFault_status s r), rfl⟩

end Sys2Proof.Machine
end

section
/-! A run, one more step of the host's at a time, and what holds of every state and output a run reaches. -/

namespace Sys2Proof.Machine

/-! ## Booting -/

theorem boot_ok (policy : RomWritePolicy) {image : List Byte} (h : 16384 ≤ image.length) :
    boot policy image =
      .ok { State.construct policy with mem := Memory.loadLow [] (image.take 16384), romLoaded := true } := by
  rw [boot_eq, if_neg (by omega)]

/-- The memory after the load holds the image's first bytes in ROM0 and zero everywhere else
(70_reset_and_hazards.md R251). -/
theorem read_bootMemory (image : List Byte) (n : Nat) :
    (Memory.loadLow [] (image.take 16384)).read n =
      if n < 16384 then image.getD n Memory.unlisted else Memory.unlisted := by
  rw [Memory.read_loadLow, List.length_take]
  by_cases hn : n < 16384
  · by_cases hi : n < image.length
    · rw [if_pos (by omega), if_pos hn]
      simp [List.getD_eq_getElem?_getD, hn]
    · rw [if_neg (by omega), if_pos hn, List.getD_eq_default _ _ (by omega)]
      rfl
  · rw [if_neg (by omega), if_neg hn]
    rfl

/-- The load lists addresses of ROM0 alone (20_memory.md R71). -/
theorem regionAt_of_mem_bootMemory {image : List Byte} {cell : Host.Cell}
    (h : cell ∈ Memory.loadLow [] (image.take 16384)) : regionAt cell.1 = .rom0 := by
  have hc : cell ∈ Memory.cellsFrom 0 (image.take 16384) := by simpa [Memory.loadLow] using h
  obtain ⟨-, hlt, -⟩ := Memory.mem_cellsFrom hc
  rw [List.length_take] at hlt
  exact if_pos (by omega)

/-! ## ROM and the report -/

/-- An address below 0x8000 is ROM (20_memory.md R71). -/
theorem kind_of_le_rom {a : Word} (h : a.toNat ≤ 0x7FFF) : (regionOf a).kind = .rom := by
  unfold regionOf regionAt
  split
  · rfl
  · rw [if_pos (by omega)]
    rfl

/-- The report of a faulted machine (60_exceptions.md R225). -/
theorem faultReport_faulted {s : State} {record : FaultRecord} (h : s.status = .faulted record) :
    faultReport s = some { record := record, regs := s.regs, sp := s.sp, pc := s.pc, memory := dump s } := by
  simp only [faultReport, h]

/-! ## One more step of a run -/

/-- The report and whether `run` has come back are those of the state (00_scope.md R8, 60_exceptions.md R225, R233). -/
theorem run_report_returned {policy : RomWritePolicy} {image : List Byte} {host : List Bool} {r : RunOutput}
    (h : run policy image host = .ok r) : r.report = faultReport r.state ∧ r.returned = r.state.status.ended := by
  obtain ⟨s, -, rfl, -⟩ := run_cases h
  exact ⟨rfl, rfl⟩

/-- What the host is given after one more step to a state, with the record of that step if it emits one. -/
def RunOutput.next (r : RunOutput) (record : Option TraceRecord) (t : State) : RunOutput :=
  { state := t, trace := r.trace ++ record.toList, report := faultReport t, returned := t.status.ended }

/-- Where a step is enabled, a run with one more choice of the host's takes it (70_reset_and_hazards.md R252). -/
theorem run_next {policy : RomWritePolicy} {image : List Byte} {host : List Bool} {r : RunOutput} {raise : Bool}
    {t : State} (h : run policy image host = .ok r) (ht : hostStep raise r.state = .next t) :
    run policy image (host ++ [raise]) = .ok (r.next (traceStep (beforeStep raise r.state)) t) := by
  obtain ⟨s, -, rfl, hrun⟩ := run_cases h
  obtain ⟨hstate, htrace⟩ := runLoop_append host [raise] s
  rw [runLoop_cons (s := runLoop host s) [] ht, runLoop_nil] at hstate
  rw [runTrace_cons (s := runLoop host s) [] ht, runTrace_nil, List.append_nil] at htrace
  rw [hrun, observe, hstate, htrace]
  rfl

/-- A run that has ended stays as it is, whatever the host does (60_exceptions.md R230, R233). -/
theorem run_ended {policy : RomWritePolicy} {image : List Byte} {host : List Bool} {r : RunOutput}
    (later : List Bool) (h : run policy image host = .ok r) (hr : r.state.status ≠ .running) :
    run policy image (host ++ later) = .ok r := by
  obtain ⟨s, -, rfl, hrun⟩ := run_cases h
  obtain ⟨hstate, htrace⟩ := runLoop_append host later s
  obtain ⟨hstay, hnone⟩ := runLoop_stay (s := runLoop host s) later fun hs => hr hs.1
  rw [hstay] at hstate
  rw [hnone, List.append_nil] at htrace
  rw [hrun, observe, hstate, htrace]
  rfl

/-- In every state a run reaches the bank is loaded and the policy is the run's argument (20_memory.md R84,
00_scope.md R13). -/
theorem run_romLoaded_policy {policy : RomWritePolicy} {image : List Byte} {host : List Bool} {r : RunOutput}
    (h : run policy image host = .ok r) : r.state.romLoaded = true ∧ r.state.config.romWritePolicy = policy := by
  obtain ⟨s, hb, rfl, -⟩ := run_cases h
  obtain ⟨-, rfl⟩ := boot_cases hb
  refine runLoop_induction (P := fun u => u.romLoaded = true ∧ u.config.romWritePolicy = policy)
    (fun raise u t hu ht => ?_) host _ ⟨rfl, rfl⟩
  obtain ⟨hl, hc⟩ := step_romLoaded_config ht
  rw [hl, hc, beforeStep_romLoaded, beforeStep_config]
  exact hu

/-- The induction over a run: what holds of the output at the start and is kept by one more step holds of every output.
A choice of the host's after the end changes nothing. -/
theorem run_induction {policy : RomWritePolicy} {image : List Byte} {P : List Bool → RunOutput → Prop}
    (start : ∀ s, P [] (observe [] s))
    (next : ∀ host r raise t, P host r → r.state.status = .running → hostStep raise r.state = .next t →
      P (host ++ [raise]) (r.next (traceStep (beforeStep raise r.state)) t))
    (ended : ∀ host r raise, P host r → r.state.status ≠ .running → P (host ++ [raise]) r)
    {host : List Bool} {r : RunOutput} (h : run policy image host = .ok r) : P host r := by
  induction host using List.reverseRecOn generalizing r with
  | nil =>
    obtain ⟨s, -, rfl, -⟩ := run_cases h
    exact start s
  | append_singleton host raise ih =>
    obtain ⟨s, -, -, hrun⟩ := run_cases h
    have hbefore := hrun host
    by_cases hs : (observe host s).state.status = .running
    · obtain ⟨t, ht⟩ := hostStep_next raise hs (run_romLoaded_policy hbefore).1
      obtain rfl := Except.ok.inj (h.symm.trans (run_next hbefore ht))
      exact next host _ raise t (ih hbefore) hs ht
    · obtain rfl := Except.ok.inj (h.symm.trans (run_ended [raise] hbefore hs))
      exact ended host _ raise (ih hbefore) hs

/-! ## The records of a run -/

/-- A run that goes on has one record for each step (60_exceptions.md R236). -/
theorem run_trace_length {policy : RomWritePolicy} {image : List Byte} {host : List Bool} {r : RunOutput}
    (h : run policy image host = .ok r) : r.state.status = .running → r.trace.length = host.length := by
  refine run_induction (P := fun host r => r.state.status = .running → r.trace.length = host.length)
    (fun _ _ => rfl) (fun host r raise t ih hs ht hrun => ?_) (fun host r raise ih hs hrun => absurd hrun hs) h
  obtain ⟨-, record, he, -⟩ | ⟨hend, -, -⟩ := step_trace ht
  · simp [RunOutput.next, he, ih hs]
  · exact absurd hrun hend

/-- The last record of a run holds the pc the run has reached (60_exceptions.md R226, R232, R236). -/
theorem run_trace_last_pc {policy : RomWritePolicy} {image : List Byte} {host : List Bool} {r : RunOutput}
    (h : run policy image host = .ok r) :
    ∀ record : TraceRecord, r.trace.getLast? = some record → record.resultingPc = r.state.pc := by
  refine run_induction
    (P := fun _ r => ∀ record : TraceRecord, r.trace.getLast? = some record → record.resultingPc = r.state.pc)
    (fun s record hl => ?_) (fun host r raise t ih hs ht record hl => ?_) (fun host r raise ih _ => ih) h
  · cases hl
  · obtain ⟨-, last, he, hpc⟩ | ⟨-, he, hpc⟩ := step_trace ht
    · obtain rfl : last = record := by simpa [RunOutput.next, he] using hl
      exact hpc
    · rw [beforeStep_pc] at hpc
      exact (ih record (by simpa [RunOutput.next, he] using hl)).trans hpc.symm

end Sys2Proof.Machine
end

section
/-! The statements about the host's view of a run (00_scope.md R8, R13). -/

namespace Sys2Proof.Machine

/-- Settles O8: the request raised before a step makes that step the stop, and the run one step longer is its output. -/
theorem stopRequestStopsBeforeTheInstruction : Obligations.StopRequestStopsBeforeTheInstruction := by
  intro s hs hl
  have hstop : hostStep true s = .next { s with stopRequest := true, status := .stopped } :=
    step_stop (s := requestStop s) hs hl rfl
  refine ⟨step_stop hs hl, hstop, rfl, fun policy image host r h hr => ?_⟩
  subst hr
  have hnone : traceStep (beforeStep true r.state) = none := traceStep_stop rfl
  rw [run_next h hstop, hnone, RunOutput.next, Option.toList_none, List.append_nil]
  rfl

/-- Settles O10: the bank is loaded in every state of a run, so a running one has a step, and an ended one stays. -/
theorem runningMachineAlwaysSteps : Obligations.RunningMachineAlwaysSteps := by
  refine ⟨fun s hs => ⟨step_next hs, step_not_loaded hs⟩,
    fun policy image host r h => ⟨fun hs => ?_, fun hs => ?_⟩⟩
  · refine ⟨(run_report_returned h).2.trans (Status.ended_eq_false.mpr hs), fun raise => ?_⟩
    obtain ⟨t, ht⟩ := hostStep_next raise hs (run_romLoaded_policy h).1
    exact ⟨t, _, ht, run_next h ht, rfl⟩
  · exact ⟨(run_report_returned h).2.trans (Status.ended_eq_true.mpr hs), fun later => run_ended later h hs⟩

/-- Settles O19: the booted state is the constructed one with the image's first 16384 bytes as its only cells. -/
theorem bootPlacesTheImage : Obligations.BootPlacesTheImage := by
  intro policy image h
  refine ⟨_, boot_ok policy h, fun k hk hk' => ?_, fun n hn => ?_, fun cell hc => ?_, rfl, rfl, rfl, rfl, rfl, rfl,
    _, run_ok [] (boot_ok policy h), rfl⟩
  · rw [read_bootMemory, if_pos hk, List.getD_eq_getElem _ _ hk']
  · exact (read_bootMemory image n).trans (if_neg (by omega))
  · rw [regionAt_of_mem_bootMemory hc]
    exact RegionKind.noConfusion

/-- Settles O24: every state of a run carries the policy the run was given, and a ROM write follows it. -/
theorem romWriteFollowsThePolicy : Obligations.RomWriteFollowsThePolicy := by
  intro s a v ha
  have hrom := kind_of_le_rom ha
  refine ⟨writeU8_rom_ignore s a v hrom, writeU8_rom_fault s a v hrom, fun image host r h hr => ?_,
    fun image host r h hr => ?_⟩ <;> subst hr
  · exact writeU8_rom_ignore _ a v hrom (run_romLoaded_policy h).2
  · exact writeU8_rom_fault _ a v hrom (run_romLoaded_policy h).2

/-- Settles O59: a run's report is that of the state it has reached. -/
theorem faultReportHoldsTheRecordAndTheDump : Obligations.FaultReportHoldsTheRecordAndTheDump := by
  refine ⟨fun s record hs => ⟨_, faultReport_faulted hs, by simp⟩, fun s hs => ?_,
    fun _ _ _ _ => ⟨rfl, rfl⟩, rfl, rfl, fun policy image host r record h hs => ?_⟩
  · obtain hs | hs := hs <;> simp only [faultReport, hs]
  · obtain ⟨hreport, hreturned⟩ := run_report_returned h
    rw [hreport, hreturned, hs]
    exact ⟨rfl, faultReport_faulted hs⟩

/-- Settles O60: one step of a run adds the record of its instruction, and a step that emits none leaves the pc. -/
theorem traceRecordHoldsTheResultingPc : Obligations.TraceRecordHoldsTheResultingPc := by
  refine ⟨fun i s t _ hx => ⟨traceExec_running hx, fun record ht => traceExec_faulted hx ht⟩,
    fun policy image host r h => ⟨run_trace_length h, run_trace_last_pc h, fun i t hr hs hf hx ht => ?_⟩⟩
  have hl := (run_romLoaded_policy h).1
  have hstep : hostStep false r.state = .next t := by
    rw [hostStep_eq, beforeStep, if_neg (by simp), step_running hs hl, runningStep_fetch hr, hf]
    exact hx
  have hrecord := (traceStep_fetch hs hl hr hf).trans (traceExec_running hx ht)
  have hnext := run_next h hstep
  rw [beforeStep, if_neg (by simp), hrecord] at hnext
  exact ⟨_, hnext, rfl⟩

end Sys2Proof.Machine
end

section
/-! What an instruction that raises nothing leaves, as one total function of the state before it. The monadic meanings
are taken apart once, in `effect_completes`; the frames and the invariant are then facts about the function `result`. -/

namespace Sys2Proof.Machine

/-- The word on top of the stack, the low byte at SP (43_stack.md R202). -/
def stackWord (s : State) : Word := wordOf (s.mem.read (s.sp + 1#16).toNat) (s.mem.read s.sp.toNat)

/-- The state with A and the flags that an accumulator operation writes, given its operand (41_alu.md R160 to R165). -/
def aluWritten (op : AluOp) (b : Byte) (s : State) : State :=
  let a := s.readReg .A
  match op with
  | .add => (s.writeReg .A (a + b)).setFlags (isZero (a + b)) false (hcAdd a b) (cAdd a b)
  | .sub => (s.writeReg .A (a - b)).setFlags (isZero (a - b)) true (hcSub a b) (cSub a b)
  | .and => (s.writeReg .A (a &&& b)).setFlags (isZero (a &&& b)) false true false
  | .xor => (s.writeReg .A (a ^^^ b)).setFlags (isZero (a ^^^ b)) false false false
  | .or => (s.writeReg .A (a ||| b)).setFlags (isZero (a ||| b)) false false false
  | .cp => s.setFlags (isZero (a - b)) true (hcSub a b) (cSub a b)

/-- The state with the registers, flags and SP that an instruction writes, memory and pc as before it. -/
def registersAfter (f : Form) (s : State) : State :=
  match f with
  | .ldRegReg d r => s.writeReg d (s.readReg r)
  | .ldRegMem d => s.writeReg d (s.mem.read (hlAddress s).toNat)
  | .ldRegImm d n => s.writeReg d n
  | .ldPairImm dd nn => s.writePair dd nn
  | .ldADirect nn => s.writeReg .A (s.mem.read nn.toNat)
  | .ldhAOffset n => s.writeReg .A (s.mem.read (zeroPage n).toNat)
  | .ldAIndexC => s.writeReg .A (s.mem.read (indexCAddress s).toNat)
  | .alu op src => aluWritten op (sourceValue s src) s
  | .incReg r =>
    (s.writeReg r (s.readReg r + 1#8)).setFlags (isZero (s.readReg r + 1#8)) false (hcInc (s.readReg r)) s.regs.flagC
  | .decReg r =>
    (s.writeReg r (s.readReg r - 1#8)).setFlags (isZero (s.readReg r - 1#8)) true (hcDec (s.readReg r)) s.regs.flagC
  | .incPair dd => s.writePair dd (s.readPair dd + 1#16)
  | .decPair dd => s.writePair dd (s.readPair dd - 1#16)
  | .call _ => s.setSp (u16 (pushAddress s))
  | .push _ => s.setSp (u16 (pushAddress s))
  | .ret => s.setSp (s.sp + 2#16)
  | .pop qq => (s.setSp (s.sp + 2#16)).writeStackPair qq (stackWord s)
  | .res b r => s.writeReg r (s.readReg r &&& ~~~(1#8 <<< b.val))
  | .ldMemReg _ => s
  | .ldMemImm _ => s
  | .ldDirectA _ => s
  | .ldhOffsetA _ => s
  | .ldIndexCA => s
  | .jp _ => s
  | .jrCond _ _ => s
  | .jr _ => s
  | .nop => s
  | .di => s

/-- Memory after a list of byte writes that raise nothing, made in its order (20_memory.md R82). -/
def storeAll (m : Memory) (bytes : List (Word × Byte)) : Memory := bytes.foldl (fun m b => memoryAfter m b.1 b.2) m

/-- The pc after an instruction (42_control.md R190 to R194, 70_reset_and_hazards.md R256). -/
def nextPc (f : Form) (s : State) : Word :=
  match f with
  | .jp nn => nn
  | .jrCond cc e => if s.condHolds cc then u16 (s.pc.toNat + 2 + e) else s.pc + 2#16
  | .jr e => u16 (s.pc.toNat + 2 + e)
  | .call nn => nn
  | .ret => stackWord s
  | f => s.pc + BitVec.ofNat 16 f.length

/-- The state after an instruction but for the pc. -/
def written (f : Form) (s : State) : State := (registersAfter f s).setMem (storeAll s.mem (f.stores s))

/-- The state after an instruction that raises nothing (`effect_completes`). -/
def result (f : Form) (s : State) : State := (written f s).setPc (nextPc f s)

/-! ## What the registers' part leaves -/

@[simp] theorem aluWritten_pc (op : AluOp) (b : Byte) (s : State) : (aluWritten op b s).pc = s.pc := by
  cases op <;> rfl

@[simp] theorem aluWritten_sp (op : AluOp) (b : Byte) (s : State) : (aluWritten op b s).sp = s.sp := by
  cases op <;> rfl

@[simp] theorem aluWritten_mem (op : AluOp) (b : Byte) (s : State) : (aluWritten op b s).mem = s.mem := by
  cases op <;> rfl

@[simp] theorem registersAfter_pc (f : Form) (s : State) : (registersAfter f s).pc = s.pc := by
  cases f <;> simp [registersAfter]

@[simp] theorem registersAfter_mem (f : Form) (s : State) : (registersAfter f s).mem = s.mem := by
  cases f <;> simp [registersAfter]

/-- An instruction that stores no byte writes registers alone. -/
theorem written_of_no_stores {f : Form} {s : State} (h : f.stores s = []) : written f s = registersAfter f s := by
  rw [written, h, storeAll, List.foldl_nil, ← registersAfter_mem f s]
  rfl

@[simp] theorem result_regs (f : Form) (s : State) : (result f s).regs = (registersAfter f s).regs := rfl
@[simp] theorem result_sp (f : Form) (s : State) : (result f s).sp = (registersAfter f s).sp := rfl
@[simp] theorem result_mem (f : Form) (s : State) : (result f s).mem = storeAll s.mem (f.stores s) := rfl
@[simp] theorem result_pc (f : Form) (s : State) : (result f s).pc = nextPc f s := rfl

/-! ## The operations -/

theorem readSource_value {s : State} {src : Src} {b : Byte} (h : readSource s src = .ok b) :
    b = sourceValue s src := by
  cases src with
  | reg r => exact (Except.ok.inj h).symm
  | mHL => exact (readU8_ok_iff.mp h).2
  | imm n => exact (Except.ok.inj h).symm

/-- An accumulator instruction reads its operand, writes, and moves on (41_alu.md R176). -/
theorem aluEffect_eq (op : AluOp) (src : Src) (s : State) :
    aluEffect op src s = readSource s src >>= fun b => advance (aluWritten op b s) (Form.alu op src).length := by
  cases op <;> cases src <;> rfl

/-- A push that succeeds stores the two bytes of the word, the low one first, and lowers SP (43_stack.md R202). -/
theorem push16_result {s t : State} {v : Word} (h : push16 s v = .ok t) :
    t = (s.setMem (storeAll s.mem [(u16 (pushAddress s), loByte v), (u16 (pushAddress s + 1), hiByte v)])).setSp
      (u16 (pushAddress s)) := by
  obtain ⟨hsp, u, hw, rfl⟩ := push16_cases h
  obtain ⟨-, m, hlo, hhi⟩ := writeU16_cases hw
  obtain ⟨-, rfl⟩ := writeU8_ok_iff.mp hlo
  obtain ⟨-, rfl⟩ := writeU8_ok_iff.mp hhi
  obtain ⟨hfirst, -, hnext, -⟩ := push_addresses hsp
  rw [push_second_address hsp, ← hnext, ← hfirst]
  rfl

/-- A pop that succeeds gives the word on top of the stack and raises SP (43_stack.md R202). -/
theorem pop16_result {s t : State} {v : Word} (h : pop16 s = .ok (v, t)) :
    v = stackWord s ∧ t = s.setSp (s.sp + 2#16) := by
  obtain ⟨-, hr, rfl⟩ := pop16_cases h
  obtain ⟨-, -, -, rfl⟩ := readU16_cases hr
  exact ⟨rfl, rfl⟩

/-! ## The instructions -/

/-- An instruction completes: it leaves its result and, if it transfers no control, its next pc is in the address space
(70_reset_and_hazards.md R256). -/
abbrev Completes (f : Form) (s t : State) : Prop :=
  t = result f s ∧ (f.transfers = false → s.pc.toNat + f.length ≤ 0xFFFF)

theorem completes_of_advance {f : Form} {s u t : State} (h : advance u f.length = .ok t) (hu : u = written f s)
    (hn : nextPc f s = s.pc + BitVec.ofNat 16 f.length) : Completes f s t := by
  obtain ⟨hl, rfl⟩ := advance_cases h
  have hpc : u.pc = s.pc := by simp [hu, written]
  rw [hpc] at hl ⊢
  exact ⟨by rw [result, hn, hu], fun _ => hl⟩

theorem completes_of_registers {f : Form} {s t : State} (h : advance (registersAfter f s) f.length = .ok t)
    (hs : f.stores s = []) (hn : nextPc f s = s.pc + BitVec.ofNat 16 f.length) : Completes f s t :=
  completes_of_advance h (written_of_no_stores hs).symm hn

/-- A load from memory: the byte is read, then the register is written. -/
theorem completes_of_read {f : Form} {s t : State} {a : Word} {d : Reg}
    (h : (readU8 s a >>= fun v => advance (s.writeReg d v) f.length) = .ok t)
    (hf : registersAfter f s = s.writeReg d (s.mem.read a.toNat)) (hs : f.stores s = [])
    (hn : nextPc f s = s.pc + BitVec.ofNat 16 f.length) : Completes f s t := by
  obtain ⟨v, hv, h⟩ := bind_ok h
  obtain ⟨-, rfl⟩ := readU8_ok_iff.mp hv
  exact completes_of_registers (hf ▸ h) hs hn

/-- A store of one byte. -/
theorem completes_of_store {f : Form} {s t : State} {a : Word} {v : Byte}
    (h : (writeU8 s a v >>= fun u => advance u f.length) = .ok t) (hf : registersAfter f s = s)
    (hs : f.stores s = [(a, v)]) (hn : nextPc f s = s.pc + BitVec.ofNat 16 f.length) : Completes f s t := by
  obtain ⟨u, hw, h⟩ := bind_ok h
  obtain ⟨-, rfl⟩ := writeU8_ok_iff.mp hw
  exact completes_of_advance h (by rw [written, hf, hs]; rfl) hn

theorem completes_alu {op : AluOp} {src : Src} {s t : State} (h : aluEffect op src s = .ok t) :
    Completes (.alu op src) s t := by
  rw [aluEffect_eq] at h
  obtain ⟨b, hb, h⟩ := bind_ok h
  obtain rfl := readSource_value hb
  exact completes_of_registers h rfl rfl

theorem jumpRelative_result {e : Int} {s t : State} (h : jumpRelative e s = .ok t) :
    t = s.setPc (u16 (s.pc.toNat + 2 + e)) := by
  obtain ⟨target, hc, h⟩ := bind_ok h
  obtain ⟨-, rfl⟩ := chk_ok_iff.mp hc
  exact (Except.ok.inj h).symm

theorem completes_jrCond {cc : Cond} {e : Int} {s t : State} (h : jrCond cc e s = .ok t) :
    Completes (.jrCond cc e) s t := by
  unfold jrCond at h
  split at h
  · next hc =>
    have hn : nextPc (.jrCond cc e) s = u16 (s.pc.toNat + 2 + e) := if_pos hc
    exact ⟨by rw [result, hn]; exact jumpRelative_result h, Bool.noConfusion⟩
  · next hc => exact completes_of_registers (f := .jrCond cc e) h rfl (if_neg hc)

theorem completes_call {nn : Word} {s t : State} (h : call nn s = .ok t) : Completes (.call nn) s t := by
  obtain ⟨back, hc, h⟩ := bind_ok h
  obtain ⟨u, hp, h⟩ := bind_ok h
  obtain ⟨-, rfl⟩ := chk_ok_iff.mp hc
  have hb : u16 ((s.pc.toNat : Int) + 3) = s.pc + 3 := u16_add s.pc 3
  obtain rfl := push16_result hp
  rw [hb] at h
  exact ⟨(Except.ok.inj h).symm, Bool.noConfusion⟩

theorem completes_ret {s t : State} (h : ret s = .ok t) : Completes .ret s t := by
  obtain ⟨⟨v, u⟩, hp, h⟩ := bind_ok h
  obtain ⟨rfl, rfl⟩ := pop16_result hp
  exact ⟨(Except.ok.inj h).symm, Bool.noConfusion⟩

theorem completes_push {qq : QPair} {s t : State} (h : push qq s = .ok t) : Completes (.push qq) s t := by
  obtain ⟨u, hp, h⟩ := bind_ok h
  obtain rfl := push16_result hp
  exact completes_of_advance h rfl rfl

theorem completes_pop {qq : QPair} {s t : State} (h : pop qq s = .ok t) : Completes (.pop qq) s t := by
  obtain ⟨⟨v, u⟩, hp, h⟩ := bind_ok h
  obtain ⟨rfl, rfl⟩ := pop16_result hp
  exact completes_of_registers h rfl rfl

/-- What an instruction that raises nothing does. -/
theorem effect_completes {f : Form} {s t : State} (h : effect f s = .ok t) : Completes f s t := by
  cases f with
  | ldRegReg | ldRegImm | ldPairImm | incReg | decReg | incPair | decPair | res | nop | di =>
    exact completes_of_registers h rfl rfl
  | ldRegMem | ldADirect | ldhAOffset | ldAIndexC => exact completes_of_read h rfl rfl rfl
  | ldMemReg | ldMemImm | ldDirectA | ldhOffsetA | ldIndexCA => exact completes_of_store h rfl rfl rfl
  | alu => exact completes_alu h
  | jp => exact ⟨(Except.ok.inj h).symm, Bool.noConfusion⟩
  | jrCond => exact completes_jrCond h
  | jr => exact ⟨jumpRelative_result h, Bool.noConfusion⟩
  | call => exact completes_call h
  | ret => exact completes_ret h
  | push => exact completes_push h
  | pop => exact completes_pop h

theorem nextPc_of_not_transfers {f : Form} (s : State) (h : f.transfers = false) :
    nextPc f s = s.pc + BitVec.ofNat 16 f.length := by
  cases f with
  | jp | jrCond | jr | call | ret => cases h
  | _ => rfl

/-- What exec can do: the instruction completes, or it takes a fault in the state before it (60_exceptions.md R226). -/
theorem exec_completes {i : Instr} {s t : State} (h : exec i s = .next t) :
    Completes i.form s t ∨ ∃ r, effect i.form s = .error r ∧ t = takeFault s r :=
  (exec_cases h).imp_left effect_completes

/-- A step that fetches an instruction, with no stop requested, is exec of it (70_reset_and_hazards.md R255). -/
theorem exec_of_step {i : Instr} {s t : State} (hr : s.stopRequest = false) (hf : fetchInstr s = .ok i)
    (h : step s = .next t) : exec i s = .next t := by
  obtain ⟨-, -, ⟨hstop, -⟩ | ⟨-, r, he, -⟩ | ⟨-, j, hj, hx⟩⟩ := step_cases h
  · exact absurd (hstop.symm.trans hr) Bool.noConfusion
  · cases hf.symm.trans he
  · cases hf.symm.trans hj
    exact hx

end Sys2Proof.Machine
end

section
/-! The frame of every instruction: the registers, flags and bytes that its form does not name are as before. -/

namespace Sys2Proof.Machine

/-! ## The register operations -/

@[simp] theorem State.writeReg_readReg_ne (s : State) {r q : Reg} (v : Byte) (h : q ≠ r) :
    (s.writeReg r v).readReg q = s.readReg q :=
  RegFile.read_write_ne s.regs r q v h

/-- Writing a pair leaves the registers that are not its halves (10_state.md R43). -/
@[simp] theorem State.writePair_readReg (s : State) {dd : DPair} (v : Word) {r : Reg} (h : pairMember dd r = false) :
    (s.writePair dd v).readReg r = s.readReg r := by
  cases dd <;> cases r <;> simp_all [pairMember, State.writePair, State.readReg, RegFile.read]

@[simp] theorem State.writePair_sp (s : State) {dd : DPair} (v : Word) (h : dd ≠ .SP) :
    (s.writePair dd v).sp = s.sp := by
  cases dd <;> simp_all [State.writePair]

@[simp] theorem State.writePair_f (s : State) (dd : DPair) (v : Word) : (s.writePair dd v).regs.f = s.regs.f := by
  cases dd <;> rfl

/-- Writing a stack pair leaves the registers that are not its halves (10_state.md R43). -/
@[simp] theorem State.writeStackPair_readReg (s : State) {qq : QPair} (v : Word) {r : Reg}
    (h : stackPairMember qq r = false) : (s.writeStackPair qq v).readReg r = s.readReg r := by
  cases qq <;> cases r <;> simp_all [stackPairMember, State.writeStackPair, State.readReg, RegFile.read]

@[simp] theorem State.writeStackPair_f (s : State) {qq : QPair} (v : Word) (h : qq ≠ .AF) :
    (s.writeStackPair qq v).regs.f = s.regs.f := by
  cases qq <;> simp_all [State.writeStackPair]

/-- The four flags are bits of F (10_state.md R45). -/
theorem RegFile.flags_of_f_eq {r q : RegFile} (h : r.f = q.f) :
    r.flagZ = q.flagZ ∧ r.flagN = q.flagN ∧ r.flagH = q.flagH ∧ r.flagC = q.flagC := by
  simp [RegFile.flagZ, RegFile.flagN, RegFile.flagH, RegFile.flagC, h]

theorem aluWritten_low (op : AluOp) (b : Byte) (s : State) :
    (aluWritten op b s).regs.f &&& 0x0F#8 = s.regs.f &&& 0x0F#8 := by
  cases op <;> simp [aluWritten]

theorem aluWritten_readReg {op : AluOp} {b : Byte} {s : State} {src : Src} {r : Reg}
    (h : (Form.alu op src).writesReg r = false) : (aluWritten op b s).readReg r = s.readReg r := by
  cases op <;> simp_all [aluWritten, Form.writesReg]

/-! ## The registers an instruction does not name -/

theorem registersAfter_readReg {f : Form} {s : State} {r : Reg} (h : f.writesReg r = false) :
    (registersAfter f s).readReg r = s.readReg r := by
  cases f with
  | alu => exact aluWritten_readReg h
  | _ => simp_all [registersAfter, Form.writesReg]

theorem registersAfter_sp {f : Form} {s : State} (h : f.writesSp = false) : (registersAfter f s).sp = s.sp := by
  cases f <;> simp_all [registersAfter, Form.writesSp]

/-- An instruction that writes no flag leaves all of F (10_state.md R46). -/
theorem registersAfter_f {f : Form} {s : State} (h : f.writesZNH = false) :
    (registersAfter f s).regs.f = s.regs.f := by
  cases f <;> simp_all [registersAfter, Form.writesZNH]

/-- The instructions that write flags are the accumulator operations, INC r, DEC r and POP AF (10_state.md R46). -/
theorem writesZNH_eq_false {f : Form} (halu : ∀ op src, f ≠ .alu op src) (hinc : ∀ r, f ≠ .incReg r)
    (hdec : ∀ r, f ≠ .decReg r) (hpop : f ≠ .pop .AF) : f.writesZNH = false := by
  cases f <;> simp_all [Form.writesZNH]

/-- INC r and DEC r write Z, N and H but not C (10_state.md R46). -/
theorem writesC_eq_false {f : Form} (h : f.writesC = false) :
    f.writesZNH = false ∨ ∃ r, f = .incReg r ∨ f = .decReg r := by
  unfold Form.writesC at h
  split at h
  · exact .inr ⟨_, .inl rfl⟩
  · exact .inr ⟨_, .inr rfl⟩
  · exact .inl h

/-- An instruction that does not write C leaves it: INC r and DEC r write it back (10_state.md R46). -/
theorem registersAfter_flagC {f : Form} {s : State} (h : f.writesC = false) :
    (registersAfter f s).regs.flagC = s.regs.flagC := by
  obtain hf | ⟨r, rfl | rfl⟩ := writesC_eq_false h
  · exact (RegFile.flags_of_f_eq (registersAfter_f hf)).2.2.2
  · exact RegFile.setFlags_flagC ..
  · exact RegFile.setFlags_flagC ..

/-- Only POP AF may change F[3:0] (10_state.md R42, R44). -/
theorem registersAfter_low {f : Form} {s : State} (h : f ≠ .pop .AF) :
    (registersAfter f s).regs.f &&& 0x0F#8 = s.regs.f &&& 0x0F#8 := by
  cases f with
  | alu => exact aluWritten_low ..
  | _ => simp_all [registersAfter]

/-! ## The bytes an instruction does not store -/

theorem storeAll_read_ne {m : Memory} {bytes : List (Word × Byte)} {n : Nat} (h : ∀ b ∈ bytes, b.1.toNat ≠ n) :
    (storeAll m bytes).read n = m.read n := by
  induction bytes generalizing m with
  | nil => rfl
  | cons b bytes ih =>
    obtain ⟨hb, hbytes⟩ := List.forall_mem_cons.mp h
    exact (ih hbytes).trans (memoryAfter_read_ne m b.1 b.2 hb.symm)

/-! ## The frame -/

theorem frame_of_effect {f : Form} {s t : State} (h : effect f s = .ok t) : f.Frame s t := by
  obtain ⟨hstatus, hhost⟩ := State.control_eq_iff.mp (effect_control h)
  obtain ⟨rfl, -⟩ := effect_completes h
  exact
    { regs := fun _ => registersAfter_readReg
      sp := registersAfter_sp
      flags := fun hf =>
        have ⟨hz, hn, hh, _⟩ := RegFile.flags_of_f_eq (registersAfter_f (s := s) hf)
        ⟨hz, hn, hh⟩
      carry := registersAfter_flagC
      lowNibble := registersAfter_low
      status := .inl hstatus
      host := hhost
      memory := fun n hn => storeAll_read_ne fun b hb => hn b.1 (List.mem_map_of_mem hb) }

/-- Taking a fault changes the status alone (60_exceptions.md R226). -/
theorem frame_takeFault (f : Form) (s : State) (r : FaultRecord) : f.Frame s (takeFault s r) :=
  { regs := fun _ _ => rfl
    sp := fun _ => rfl
    flags := fun _ => ⟨rfl, rfl, rfl⟩
    carry := fun _ => rfl
    lowNibble := fun _ => rfl
    status := .inr ⟨r, rfl⟩
    host := ⟨rfl, rfl, rfl⟩
    memory := fun _ _ => rfl }

/-- Every instruction leaves what its form does not name (10_state.md R46; 20_memory.md R88). -/
theorem exec_frame {i : Instr} {s t : State} (h : exec i s = .next t) : i.form.Frame s t := by
  obtain hok | ⟨r, -, rfl⟩ := exec_cases h
  · exact frame_of_effect hok
  · exact frame_takeFault i.form s r

/-- The frame of a form, executed as its row of the table. -/
theorem exec_toInstr_frame {f : Form} {s t : State} (h : exec f.toInstr s = .next t) : f.Frame s t :=
  f.form_toInstr ▸ exec_frame h

end Sys2Proof.Machine
end

section
/-! The invariant of a step: a fault's record is about the instruction at the pc, whichever access raised it, and what
an instruction stores and writes into F keeps memory canonical and mapped and F[3:0] zero. -/

namespace Sys2Proof.Machine

/-! ## Fault records -/

/-- Whatever fault a computation raises, its record is that of the instruction at the pc (60_exceptions.md R225). -/
def RaisesAt {α : Type} (pc : Word) (x : Except FaultRecord α) : Prop :=
  ∀ r, x = .error r → (Status.faulted r).consistent pc = true

theorem raisesAt_ok {α : Type} (pc : Word) (a : α) : RaisesAt pc (.ok a : Except FaultRecord α) := by
  intro r h
  cases h

theorem raisesAt_bind {α β : Type} {pc : Word} {x : Except FaultRecord α} {f : α → Except FaultRecord β}
    (hx : RaisesAt pc x) (hf : ∀ a, x = .ok a → RaisesAt pc (f a)) : RaisesAt pc (x >>= f) := by
  intro r h
  obtain h | ⟨a, ha, h⟩ := bind_error h
  · exact hx r h
  · exact hf a ha r h

theorem consistent_memoryFault (pc a : Word) (k : Access) :
    (Status.faulted (.memoryFault pc a k)).consistent pc = true := by
  simp [Status.consistent]

theorem raisesAt_chk (s : State) (v : Int) (k : Access) : RaisesAt s.pc (chk s v k) := by
  intro r h
  obtain ⟨-, rfl⟩ := chk_error_iff.mp h
  exact consistent_memoryFault ..

theorem raisesAt_readU8 (s : State) (a : Word) : RaisesAt s.pc (readU8 s a) := by
  intro r h
  obtain rfl := readU8_error h
  exact consistent_memoryFault ..

theorem raisesAt_writeU8 (s : State) (a : Word) (v : Byte) : RaisesAt s.pc (writeU8 s a v) := by
  intro r h
  obtain rfl := writeU8_error h
  exact consistent_memoryFault ..

theorem raisesAt_advance {u : State} {pc : Word} (l : Nat) (h : u.pc = pc) : RaisesAt pc (advance u l) :=
  h ▸ raisesAt_bind (raisesAt_chk u _ _) fun _ _ => raisesAt_ok _ _

theorem raisesAt_readU16 (s : State) (a : Word) : RaisesAt s.pc (readU16 s a) :=
  raisesAt_bind (raisesAt_readU8 s a) fun _ _ => raisesAt_bind (raisesAt_chk s _ _) fun _ _ =>
    raisesAt_bind (raisesAt_readU8 s _) fun _ _ => raisesAt_ok _ _

theorem writeU8_pc {s t : State} {a : Word} {v : Byte} (h : writeU8 s a v = .ok t) : t.pc = s.pc := by
  obtain ⟨-, rfl⟩ := writeU8_ok_iff.mp h
  rfl

theorem raisesAt_writeU16 (s : State) (a v : Word) : RaisesAt s.pc (writeU16 s a v) :=
  raisesAt_bind (raisesAt_writeU8 s a _) fun _ hw => raisesAt_bind (raisesAt_chk s _ _) fun _ _ =>
    writeU8_pc hw ▸ raisesAt_writeU8 _ _ _

theorem raisesAt_push16 (s : State) (v : Word) : RaisesAt s.pc (push16 s v) :=
  raisesAt_bind (raisesAt_chk s _ _) fun _ _ => raisesAt_bind (raisesAt_writeU16 s _ v) fun _ _ => raisesAt_ok _ _

theorem raisesAt_pop16 (s : State) : RaisesAt s.pc (pop16 s) :=
  raisesAt_bind (raisesAt_readU16 s _) fun _ _ => raisesAt_bind (raisesAt_chk s _ _) fun _ _ => raisesAt_ok _ _

theorem raisesAt_readSource (s : State) (src : Src) : RaisesAt s.pc (readSource s src) := by
  cases src with
  | mHL => exact raisesAt_readU8 s _
  | reg | imm => exact raisesAt_ok _ _

/-- An instruction that stores a byte and moves on. -/
theorem raisesAt_store_advance (s : State) (a : Word) (v : Byte) (l : Nat) :
    RaisesAt s.pc (writeU8 s a v >>= fun u => advance u l) :=
  raisesAt_bind (raisesAt_writeU8 s a v) fun _ hw => raisesAt_advance l (writeU8_pc hw)

/-- An instruction that loads a register from memory and moves on. -/
theorem raisesAt_read_advance (s : State) (a : Word) (d : Reg) (l : Nat) :
    RaisesAt s.pc (readU8 s a >>= fun v => advance (s.writeReg d v) l) :=
  raisesAt_bind (raisesAt_readU8 s a) fun _ _ => raisesAt_advance l rfl

theorem raisesAt_jumpRelative (e : Int) (s : State) : RaisesAt s.pc (jumpRelative e s) :=
  raisesAt_bind (raisesAt_chk s _ _) fun _ _ => raisesAt_ok _ _

theorem raisesAt_aluEffect (op : AluOp) (src : Src) (s : State) : RaisesAt s.pc (aluEffect op src s) :=
  aluEffect_eq op src s ▸
    raisesAt_bind (raisesAt_readSource s src) fun b _ => raisesAt_advance _ (aluWritten_pc op b s)

theorem raisesAt_jrCond (cc : Cond) (e : Int) (s : State) : RaisesAt s.pc (jrCond cc e s) := by
  unfold jrCond
  split
  · exact raisesAt_jumpRelative e s
  · exact raisesAt_advance 2 rfl

theorem push16_pc {s t : State} {v : Word} (h : push16 s v = .ok t) : t.pc = s.pc := by
  obtain rfl := push16_result h
  rfl

theorem pop16_pc {s t : State} {v : Word} (h : pop16 s = .ok (v, t)) : t.pc = s.pc := by
  obtain ⟨-, rfl⟩ := pop16_result h
  rfl

theorem raisesAt_call (nn : Word) (s : State) : RaisesAt s.pc (call nn s) :=
  raisesAt_bind (raisesAt_chk s _ _) fun _ _ => raisesAt_bind (raisesAt_push16 s _) fun _ _ => raisesAt_ok _ _

theorem raisesAt_ret (s : State) : RaisesAt s.pc (ret s) :=
  raisesAt_bind (raisesAt_pop16 s) fun _ _ => raisesAt_ok _ _

theorem raisesAt_push (qq : QPair) (s : State) : RaisesAt s.pc (push qq s) :=
  raisesAt_bind (raisesAt_push16 s _) fun _ hp => raisesAt_advance 1 (push16_pc hp)

theorem raisesAt_pop (qq : QPair) (s : State) : RaisesAt s.pc (pop qq s) :=
  raisesAt_bind (raisesAt_pop16 s) fun _ hp =>
    raisesAt_advance 1 ((State.writeStackPair_pc ..).trans (pop16_pc hp))

/-- The fault of an instruction is about that instruction (60_exceptions.md R223, R225). -/
theorem raisesAt_effect (f : Form) (s : State) : RaisesAt s.pc (effect f s) := by
  cases f with
  | ldRegReg | ldRegImm | incReg | decReg | res | nop | di => exact raisesAt_advance _ rfl
  | ldPairImm | incPair | decPair => exact raisesAt_advance _ (State.writePair_pc ..)
  | ldRegMem | ldADirect | ldhAOffset | ldAIndexC => exact raisesAt_read_advance s _ _ _
  | ldMemReg | ldMemImm | ldDirectA | ldhOffsetA | ldIndexCA => exact raisesAt_store_advance s _ _ _
  | alu => exact raisesAt_aluEffect _ _ s
  | jp => exact raisesAt_ok _ _
  | jrCond => exact raisesAt_jrCond _ _ s
  | jr => exact raisesAt_jumpRelative _ s
  | call => exact raisesAt_call _ s
  | ret => exact raisesAt_ret s
  | push => exact raisesAt_push _ s
  | pop => exact raisesAt_pop _ s

/-! ## The fetch -/

theorem raisesAt_fetchByte (s : State) (k : Nat) : RaisesAt s.pc (fetchByte s k) :=
  raisesAt_bind (raisesAt_chk s _ _) fun _ _ => raisesAt_readU8 s _

/-- A decode fault names the pc and its one or two opcode bytes (60_exceptions.md R221, R222). -/
theorem raisesAt_decodeFault {α : Type} (pc : Word) {bytes : List Byte} (h : bytes.length = 1 ∨ bytes.length = 2) :
    RaisesAt pc (.error (.decodeFault pc bytes) : Except FaultRecord α) := by
  intro r hr
  obtain rfl := Except.error.inj hr
  simpa [Status.consistent] using h

theorem raisesAt_fetchOperands (s : State) (op : Opcode) : RaisesAt s.pc (fetchOperands s op) := by
  cases op with
  | noOperand f => exact raisesAt_ok _ _
  | operand8 f => exact raisesAt_bind (raisesAt_fetchByte s 1) fun _ _ => raisesAt_ok _ _
  | operand16 f =>
    exact raisesAt_bind (raisesAt_fetchByte s 1) fun _ _ => raisesAt_bind (raisesAt_fetchByte s 2) fun _ _ =>
      raisesAt_ok _ _

theorem raisesAt_fetchExtended (s : State) : RaisesAt s.pc (fetchExtended s) := by
  refine raisesAt_bind (raisesAt_fetchByte s 1) fun b _ => ?_
  split
  · exact raisesAt_ok _ _
  · exact raisesAt_decodeFault _ (.inr rfl)

theorem raisesAt_fetchPrimary (s : State) (b : Byte) : RaisesAt s.pc (fetchPrimary s b) := by
  unfold fetchPrimary
  split
  · exact raisesAt_fetchOperands s _
  · exact raisesAt_decodeFault _ (.inl rfl)

/-- The fault of a fetch is about the instruction at the pc (60_exceptions.md R221 to R223, R225). -/
theorem raisesAt_fetchInstr (s : State) : RaisesAt s.pc (fetchInstr s) := by
  refine raisesAt_bind (raisesAt_bind (raisesAt_fetchByte s 0) fun b _ => ?_) fun _ _ => raisesAt_ok _ _
  split
  · exact raisesAt_fetchExtended s
  · exact raisesAt_fetchPrimary s b

/-! ## The invariant -/

/-- A list of writes that raise nothing keeps memory canonical and within the storage (20_memory.md R71, R74). -/
theorem storeAll_wf_mapped {m : Memory} (bytes : List (Word × Byte)) (hwf : m.wf) (hmap : m.mapped) :
    (storeAll m bytes).wf ∧ (storeAll m bytes).mapped := by
  induction bytes generalizing m with
  | nil => exact ⟨hwf, hmap⟩
  | cons b bytes ih => exact ih (memoryAfter_wf m b.1 b.2 hwf) (memoryAfter_mapped m b.1 b.2 hmap)

/-- POP AF clears F[3:0] (10_state.md R44). -/
theorem State.writeStackPair_AF_low (s : State) (v : Word) :
    (s.writeStackPair .AF v).regs.f &&& 0x0F#8 = 0x00#8 := by
  show loByte v &&& 0xF0#8 &&& 0x0F#8 = 0x00#8
  rw [BitVec.and_assoc]
  exact BitVec.and_zero

/-- Every instruction keeps F[3:0] zero (10_state.md R42). -/
theorem registersAfter_lowNibbleZero {f : Form} {s : State} (h : s.regs.lowNibbleZero) :
    (registersAfter f s).regs.lowNibbleZero := by
  by_cases hf : f = .pop .AF
  · subst hf
    exact State.writeStackPair_AF_low ..
  · exact (registersAfter_low hf).trans h

/-- Taking a fault that is about the instruction at the pc keeps the invariant (60_exceptions.md R226). -/
theorem takeFault_inv {s : State} {r : FaultRecord} (h : s.Inv) (hr : (Status.faulted r).consistent s.pc = true) :
    (takeFault s r).Inv := by
  obtain ⟨hwf, hmap, hlow, -⟩ := h
  exact ⟨hwf, hmap, hlow, hr⟩

/-- An instruction executed by a running machine keeps the invariant. -/
theorem exec_inv {i : Instr} {s t : State} (h : s.Inv) (hs : s.status = .running) (hx : exec i s = .next t) :
    t.Inv := by
  obtain hok | ⟨r, he, rfl⟩ := exec_cases hx
  · obtain ⟨hwf, hmap, hlow, -⟩ := h
    obtain ⟨hstatus, -⟩ := State.control_eq_iff.mp (effect_control hok)
    obtain ⟨rfl, -⟩ := effect_completes hok
    obtain ⟨hwf', hmap'⟩ := storeAll_wf_mapped (i.form.stores s) hwf hmap
    refine ⟨hwf', hmap', registersAfter_lowNibbleZero hlow, ?_⟩
    rw [hstatus, hs]
    rfl
  · exact takeFault_inv h (raisesAt_effect _ s r he)

/-- A step keeps the invariant, whichever way it ends (70_reset_and_hazards.md R255). -/
theorem step_inv {s t : State} (h : s.Inv) (hstep : step s = .next t) : t.Inv := by
  obtain ⟨hs, -, ⟨-, rfl⟩ | ⟨-, r, hf, rfl⟩ | ⟨-, i, -, hx⟩⟩ := step_cases hstep
  · obtain ⟨hwf, hmap, hlow, -⟩ := h
    exact ⟨hwf, hmap, hlow, rfl⟩
  · exact takeFault_inv h (raisesAt_fetchInstr s r hf)
  · exact exec_inv h hs hx

theorem beforeStep_inv {s : State} (raise : Bool) (h : s.Inv) : (beforeStep raise s).Inv := by
  cases raise <;> exact h

/-! ## The first states -/

theorem construct_inv (policy : RomWritePolicy) : (State.construct policy).Inv :=
  ⟨Memory.wf_nil, Memory.mapped_nil, (by decide : RegFile.reset.lowNibbleZero), rfl⟩

theorem lt_of_regionAt_rom0 {n : Nat} (h : regionAt n = .rom0) : n < 0x4000 := by
  by_contra hn
  rw [regionAt, if_neg hn] at h
  split_ifs at h

/-- The load lists addresses of ROM0 alone, which is storage outside ROM1 (20_memory.md R71, R84). -/
theorem mapped_bootMemory (image : List Byte) : (Memory.loadLow [] (image.take 16384)).mapped := by
  intro cell hc
  have hrom := regionAt_of_mem_bootMemory hc
  have hlt := lt_of_regionAt_rom0 hrom
  rw [hrom]
  exact ⟨by omega, RegionKind.noConfusion, Region.noConfusion⟩

theorem boot_inv {policy : RomWritePolicy} {image : List Byte} {s : State} (h : boot policy image = .ok s) : s.Inv := by
  obtain ⟨-, rfl⟩ := boot_cases h
  obtain ⟨-, -, hlow, hstatus⟩ := construct_inv policy
  exact ⟨Memory.wf_loadLow [] _ Memory.wf_nil, mapped_bootMemory image, hlow, hstatus⟩

theorem run_inv {policy : RomWritePolicy} {image : List Byte} {host : List Bool} {r : RunOutput}
    (h : run policy image host = .ok r) : r.state.Inv := by
  obtain ⟨s, hb, rfl, -⟩ := run_cases h
  exact runLoop_induction (fun raise _ _ hu ht => step_inv (beforeStep_inv raise hu) ht) host s (boot_inv hb)

end Sys2Proof.Machine
end

section
/-! The stop request latch is not read: every operation takes a state that differs in the latch to a result that differs
in the latch (10_state.md R51). -/

namespace Sys2Proof.Machine

/-- The state with the stop request set or clear. -/
def State.withLatch (latch : Bool) (s : State) : State := { s with stopRequest := latch }

section
variable (latch : Bool) (s : State)

@[simp] theorem State.withLatch_setPc (v : Word) :
    (s.withLatch latch).setPc v = (s.setPc v).withLatch latch := rfl
@[simp] theorem State.withLatch_setSp (v : Word) :
    (s.withLatch latch).setSp v = (s.setSp v).withLatch latch := rfl
@[simp] theorem State.withLatch_setMem (m : Memory) :
    (s.withLatch latch).setMem m = (s.setMem m).withLatch latch := rfl
@[simp] theorem State.withLatch_writeReg (r : Reg) (v : Byte) :
    (s.withLatch latch).writeReg r v = (s.writeReg r v).withLatch latch := rfl
@[simp] theorem State.withLatch_setFlags (z n h c : Bool) :
    (s.withLatch latch).setFlags z n h c = (s.setFlags z n h c).withLatch latch := rfl
@[simp] theorem State.withLatch_writePair (dd : DPair) (v : Word) :
    (s.withLatch latch).writePair dd v = (s.writePair dd v).withLatch latch := by cases dd <;> rfl
@[simp] theorem State.withLatch_writeStackPair (qq : QPair) (v : Word) :
    (s.withLatch latch).writeStackPair qq v = (s.writeStackPair qq v).withLatch latch := by cases qq <;> rfl

@[simp] theorem State.withLatch_mem : (s.withLatch latch).mem = s.mem := rfl
@[simp] theorem State.withLatch_pc : (s.withLatch latch).pc = s.pc := rfl
@[simp] theorem State.withLatch_sp : (s.withLatch latch).sp = s.sp := rfl
@[simp] theorem State.withLatch_regs : (s.withLatch latch).regs = s.regs := rfl
@[simp] theorem State.withLatch_readReg (r : Reg) : (s.withLatch latch).readReg r = s.readReg r := rfl
@[simp] theorem State.withLatch_readPair (dd : DPair) : (s.withLatch latch).readPair dd = s.readPair dd := rfl
@[simp] theorem State.withLatch_readStackPair (qq : QPair) :
    (s.withLatch latch).readStackPair qq = s.readStackPair qq := rfl
@[simp] theorem State.withLatch_condHolds (cc : Cond) : (s.withLatch latch).condHolds cc = s.condHolds cc := rfl
@[simp] theorem hlAddress_withLatch : hlAddress (s.withLatch latch) = hlAddress s := rfl
@[simp] theorem indexCAddress_withLatch : indexCAddress (s.withLatch latch) = indexCAddress s := rfl
@[simp] theorem pushAddress_withLatch : pushAddress (s.withLatch latch) = pushAddress s := rfl
@[simp] theorem aluWritten_withLatch (op : AluOp) (b : Byte) :
    aluWritten op b (s.withLatch latch) = (aluWritten op b s).withLatch latch := by cases op <;> rfl
@[simp] theorem chk_withLatch (v : Int) (k : Access) : chk (s.withLatch latch) v k = chk s v k := rfl
@[simp] theorem readU8_withLatch (a : Word) : readU8 (s.withLatch latch) a = readU8 s a := rfl
@[simp] theorem readU16_withLatch (a : Word) : readU16 (s.withLatch latch) a = readU16 s a := rfl
@[simp] theorem readSource_withLatch (src : Src) : readSource (s.withLatch latch) src = readSource s src := rfl

@[simp] theorem writeU8_withLatch (a : Word) (v : Byte) :
    writeU8 (s.withLatch latch) a v = State.withLatch latch <$> writeU8 s a v := by
  by_cases h : acceptsWrite s a
  · rw [writeU8_ok s a v h, writeU8_ok (s.withLatch latch) a v h]
    rfl
  · rw [writeU8_not_accepted s a v h, writeU8_not_accepted (s.withLatch latch) a v h]
    rfl

@[simp] theorem advance_withLatch (l : Nat) :
    advance (s.withLatch latch) l = State.withLatch latch <$> advance s l := by
  simp [advance]

@[simp] theorem writeU16_withLatch (a v : Word) :
    writeU16 (s.withLatch latch) a v = State.withLatch latch <$> writeU16 s a v := by
  simp [writeU16]

@[simp] theorem push16_withLatch (v : Word) :
    push16 (s.withLatch latch) v = State.withLatch latch <$> push16 s v := by
  simp [push16]

@[simp] theorem pop16_withLatch :
    pop16 (s.withLatch latch) = (fun p => (p.1, p.2.withLatch latch)) <$> pop16 s := by
  simp [pop16]

theorem jumpRelative_withLatch (e : Int) :
    jumpRelative e (s.withLatch latch) = State.withLatch latch <$> jumpRelative e s := by
  simp [jumpRelative]

theorem jrCond_withLatch (cc : Cond) (e : Int) :
    jrCond cc e (s.withLatch latch) = State.withLatch latch <$> jrCond cc e s := by
  unfold jrCond
  rw [State.withLatch_condHolds]
  split
  · exact jumpRelative_withLatch latch s e
  · exact advance_withLatch latch s 2

/-- An instruction with the latch set or clear does the same but for the latch. -/
theorem effect_withLatch (f : Form) : effect f (s.withLatch latch) = State.withLatch latch <$> effect f s := by
  cases f with
  | ldRegReg | ldRegImm | ldPairImm => simp [effect, ldRegReg, ldRegImm, ldPairImm]
  | incReg | decReg | incPair | decPair => simp [effect, incReg, decReg, incPair, decPair]
  | res | nop | di => simp [effect, res, nop, di]
  | ldRegMem | ldADirect | ldhAOffset | ldAIndexC =>
    simp [effect, ldRegMem, ldADirect, ldhAOffset, ldAIndexC]
  | ldMemReg | ldMemImm | ldDirectA | ldhOffsetA | ldIndexCA =>
    simp [effect, ldMemReg, ldMemImm, ldDirectA, ldhOffsetA, ldIndexCA]
  | alu => simp [effect, aluEffect_eq]
  | jp => rfl
  | jrCond => exact jrCond_withLatch latch s _ _
  | jr => exact jumpRelative_withLatch latch s _
  | call => simp [effect, call]
  | ret => simp [effect, ret]
  | push => simp [effect, push]
  | pop => simp [effect, pop]

/-- exec with the latch set or clear gives the same next state but for the latch (10_state.md R51). -/
theorem exec_withLatch {i : Instr} {s t : State} (h : exec i s = .next t) :
    exec i (s.withLatch latch) = .next (t.withLatch latch) := by
  rw [exec_eq_commit, effect_withLatch]
  obtain hx | ⟨r, hx, rfl⟩ := exec_cases h <;> rw [hx] <;> rfl

end

end Sys2Proof.Machine
end

section
/-! The statements about the state: the invariant, the pc, the stop request, registers, flags and frames
(10_state.md). -/

namespace Sys2Proof.Machine

/-- Settles O14: a stop and a fault change the status alone, and an instruction keeps each part of the invariant. -/
theorem stepKeepsTheInvariant : Obligations.StepKeepsTheInvariant :=
  fun _ _ h hstep => step_inv h hstep

/-- Settles O12: an instruction that completes and transfers no control has had its next pc checked. -/
theorem sequentialPcNeverWraps : Obligations.SequentialPcNeverWraps := by
  intro s t i hr hf hstep ht htransfers
  obtain ⟨rfl, hrange⟩ | ⟨r, -, rfl⟩ := exec_completes (exec_of_step hr hf hstep)
  · have hle := hrange htransfers
    refine ⟨?_, hle⟩
    rw [result_pc, nextPc_of_not_transfers s htransfers]
    exact word_add_toNat s.pc _ hle
  · cases ht

/-- Settles O13: no instruction writes the latch, and every operation is the same with it set or clear. -/
theorem programCannotReadTheStopRequest : Obligations.ProgramCannotReadTheStopRequest := by
  intro i s t latch hx
  obtain ⟨hlatch, -⟩ := (exec_frame hx).host
  exact ⟨hlatch, exec_withLatch latch hx⟩

/-- Settles O15: construction and boot have the invariant, and O14's step keeps it along a run. -/
theorem resetAndBootHaveTheInvariant : Obligations.ResetAndBootHaveTheInvariant :=
  ⟨construct_inv _, fun policy => ⟨construct_inv policy, fun _ _ h => boot_inv h, fun _ _ _ h => run_inv h⟩⟩

/-- Settles O29: a pair is `wordOf` of its halves, so its value follows a write of either half. -/
theorem pairsAliasTheirHalves : Obligations.PairsAliasTheirHalves := by
  intro s v x
  refine ⟨⟨?_, ?_, ?_, ?_, rfl, rfl, rfl⟩, ⟨rfl, rfl, rfl, rfl, rfl, rfl, rfl⟩, ⟨hiByte_toNat v, loByte_toNat v⟩,
    ?_, ?_, ?_, ?_, ?_, ?_, ?_, ?_⟩ <;> exact wordOf_toNat ..

/-- Settles O53: an instruction of no other form writes F, and INC r and DEC r write C back. -/
theorem onlyTheListedInstructionsWriteFlags : Obligations.OnlyTheListedInstructionsWriteFlags := by
  intro i s t hx
  refine ⟨fun halu hinc hdec hpop => ?_, fun r hr => (exec_frame hx).carry ?_⟩
  · obtain ⟨rfl, -⟩ | ⟨r, -, rfl⟩ := exec_completes hx
    · exact registersAfter_f (writesZNH_eq_false halu hinc hdec hpop)
    · rfl
  · obtain hf | hf := hr <;> rw [hf] <;> rfl

/-- Settles O54: the frame that every form has. -/
theorem registerLoadsKeepTheRest : Obligations.RegisterLoadsKeepTheRest :=
  fun _ _ _ _ hx => exec_toInstr_frame hx

/-- Settles O55: the frame that every form has. -/
theorem arithmeticKeepsTheRest : Obligations.ArithmeticKeepsTheRest :=
  fun _ _ _ _ hx => exec_toInstr_frame hx

/-- Settles O18: reset is construction, under the open policy. -/
theorem resetHasTheDocumentedValues : Obligations.ResetHasTheDocumentedValues := by
  intro s hs
  obtain ⟨policy, rfl⟩ : ∃ policy, s = State.construct policy := hs.elim (fun h => ⟨_, h⟩) id
  simp [RegFile.reset, RegFile.flagZ, RegFile.flagN, RegFile.flagH, RegFile.flagC]

end Sys2Proof.Machine
end

section
/-! The memory map: the range of each region, what ROM keeps, the load of the fixed bank, and the dump of the backed
regions (20_memory.md R71, R72, R76, R84, R85). -/

namespace Sys2Proof.Machine

/-! ## Regions -/

/-- The region of an address contains it (20_memory.md R72). -/
theorem regionAt_contains {n : Nat} (h : n ≤ 0xFFFF) : (regionAt n).first ≤ n ∧ n ≤ (regionAt n).last := by
  unfold regionAt
  split_ifs <;> simp only [Region.first, Region.last] <;> omega

/-- Of two regions of the table one ends before the other begins (20_memory.md R71). -/
theorem Region.eq_or_apart (r q : Region) : r = q ∨ r.last < q.first ∨ q.last < r.first := by
  cases r <;> cases q <;> decide

theorem Region.eq_of_contain {r q : Region} {n : Nat} (hr : r.first ≤ n ∧ n ≤ r.last)
    (hq : q.first ≤ n ∧ n ≤ q.last) : r = q := by
  obtain h | h | h := Region.eq_or_apart r q
  · exact h
  · omega
  · omega

theorem regionAt_eq_iff {n : Nat} {r : Region} (h : n ≤ 0xFFFF) :
    regionAt n = r ↔ r.first ≤ n ∧ n ≤ r.last :=
  ⟨fun hr => hr ▸ regionAt_contains h, Region.eq_of_contain (regionAt_contains h)⟩

theorem regionOf_eq_iff {a : Word} {r : Region} : regionOf a = r ↔ r.first ≤ a.toNat ∧ a.toNat ≤ r.last :=
  regionAt_eq_iff (Nat.le_of_lt_succ a.isLt)

theorem regionOf_contains (a : Word) : (regionOf a).first ≤ a.toNat ∧ a.toNat ≤ (regionOf a).last :=
  regionAt_contains (Nat.le_of_lt_succ a.isLt)

/-- The offset of an address is an index of its region's array (20_memory.md R72). -/
theorem offsetOf_lt_size (a : Word) : offsetOf a < (regionOf a).size := by
  obtain ⟨hfirst, hlast⟩ := regionOf_contains a
  unfold offsetOf Region.size
  omega

theorem first_add_offsetOf (a : Word) : (regionOf a).first + offsetOf a = a.toNat :=
  Nat.add_sub_cancel' (regionOf_contains a).1

theorem Region.kind_unmapped_iff {r : Region} : r.kind = .unmapped ↔ r = .unmapped1 ∨ r = .unmapped2 := by
  cases r <;> decide

/-- The two unmapped ranges (20_memory.md R71, R78). -/
theorem kind_unmapped_iff {a : Word} : (regionOf a).kind = .unmapped ↔
    (0xE000 ≤ a.toNat ∧ a.toNat ≤ 0xFEFF) ∨ (0xFF4C ≤ a.toNat ∧ a.toNat ≤ 0xFF7F) := by
  rw [Region.kind_unmapped_iff, regionOf_eq_iff, regionOf_eq_iff]
  rfl

theorem readable_of_storable {a : Word} (h : storable a) : readable a := by
  rw [readable, h]
  exact RegionKind.noConfusion

/-! ## Zero-page addresses -/

theorem zeroPage_toNat (n : Byte) : (zeroPage n).toNat = 0xFF00 + n.toNat := by
  have hn := n.isLt
  simp only [zeroPage, BitVec.toNat_add, BitVec.toNat_setWidth, BitVec.toNat_ofNat]
  omega

/-- The offsets of the second unmapped range (30_encoding.md R118, 20_memory.md R78). -/
theorem zeroPage_unmapped {n : Byte} (hlow : 0x4C ≤ n.toNat) (hhigh : n.toNat ≤ 0x7F) :
    (regionOf (zeroPage n)).kind = .unmapped := by
  rw [kind_unmapped_iff, zeroPage_toNat]
  omega

/-! ## ROM -/

/-- ROM1 holds no byte that memory lists, so it reads 0x00 (20_memory.md R74). -/
theorem Memory.read_rom1 {m : Memory} {n : Nat} (h : m.mapped) (hn : regionAt n = .rom1) : m.read n = 0x00#8 := by
  refine Memory.read_of_not_listed m n fun cell hc he => ?_
  obtain ⟨-, -, hrom1⟩ := h cell hc
  exact hrom1 (he ▸ hn)

/-- A write changes no byte of ROM, whether it is ignored or stored elsewhere (20_memory.md R76). -/
theorem memoryAfter_read_rom (m : Memory) (a : Word) (v : Byte) {n : Nat} (h : n < 0x8000) :
    (memoryAfter m a v).read n = m.read n := by
  by_cases hn : n = a.toNat
  · rw [memoryAfter_rom m v (not_storable_of_lt (hn ▸ h))]
  · exact memoryAfter_read_ne m a v hn

theorem storeAll_read_rom (m : Memory) (bytes : List (Word × Byte)) {n : Nat} (h : n < 0x8000) :
    (storeAll m bytes).read n = m.read n := by
  induction bytes generalizing m with
  | nil => rfl
  | cons b bytes ih => exact (ih (memoryAfter m b.1 b.2)).trans (memoryAfter_read_rom m b.1 b.2 h)

theorem exec_read_rom {i : Instr} {s t : State} (h : exec i s = .next t) {n : Nat} (hn : n < 0x8000) :
    t.mem.read n = s.mem.read n := by
  obtain ⟨rfl, -⟩ | ⟨r, -, rfl⟩ := exec_completes h
  · exact storeAll_read_rom s.mem _ hn
  · rfl

theorem step_read_rom {s t : State} (h : step s = .next t) {n : Nat} (hn : n < 0x8000) :
    t.mem.read n = s.mem.read n := by
  obtain ⟨-, -, ⟨-, rfl⟩ | ⟨-, r, -, rfl⟩ | ⟨-, i, -, hx⟩⟩ := step_cases h
  · rfl
  · rfl
  · exact exec_read_rom hx hn

/-! ## Loading the fixed bank -/

theorem loadFixedBank_ok {bytes : List Byte} {s : State} (h : s.romLoaded = false) (hl : bytes.length = fixedBankSize) :
    loadFixedBank bytes s = .ok { s with mem := s.mem.loadLow bytes, romLoaded := true } := by
  rw [loadFixedBank, if_neg (by simp [h]), if_neg (not_not.mpr hl)]

theorem loadFixedBank_wrongSize {bytes : List Byte} {s : State} (h : s.romLoaded = false)
    (hl : bytes.length ≠ fixedBankSize) : loadFixedBank bytes s = .error .wrongSize := by
  rw [loadFixedBank, if_neg (by simp [h]), if_pos hl]

theorem loadFixedBank_again (bytes : List Byte) {s : State} (h : s.romLoaded = true) :
    loadFixedBank bytes s = .error .alreadyLoaded := if_pos h

/-! ## The dump -/

/-- The bytes of a region are those of its addresses, in their order. -/
theorem dumpRegion_eq (s : State) (r : Region) : dumpRegion s r = (List.range' r.first r.size).map s.mem.read := by
  rw [List.range'_eq_map_range, List.map_map]
  rfl

theorem dumpRegion_getElem? (s : State) {r : Region} {k : Nat} (h : k < r.size) :
    (dumpRegion s r)[k]? = some (s.mem.read (r.first + k)) := by
  simp [dumpRegion, h]

/-- The backed regions are three stretches of addresses: up to the first unmapped region, IO, and HRAM (20_memory.md
R71). -/
theorem backedAddresses : backedRegions.flatMap (fun r => List.range' r.first r.size) =
    List.range' 0 57344 ++ (List.range' 0xFF00 76 ++ List.range' 0xFF80 128) := by
  have hlow : List.range' 0 57344 = List.range' 0 16384 ++ (List.range' 0x4000 16384 ++ (List.range' 0x8000 8192 ++
      (List.range' 0xA000 8192 ++ List.range' 0xC000 8192))) := by
    rw [List.range'_append_1, List.range'_append_1, List.range'_append_1, List.range'_append_1]
  rw [hlow]
  simp only [backedRegions, List.flatMap_cons, List.flatMap_nil, List.append_nil, List.append_assoc]
  rfl

theorem dump_eq (s : State) : dump s =
    (List.range' 0 57344 ++ (List.range' 0xFF00 76 ++ List.range' 0xFF80 128)).map s.mem.read := by
  rw [← backedAddresses, List.map_flatMap, dump]
  exact congrArg (backedRegions.flatMap ·) (funext (dumpRegion_eq s))

end Sys2Proof.Machine
end

section
/-! What the byte and word accesses give, in order: reads back, stored bytes seen by a fetch, and the first access of an
instruction that faults (20_memory.md R81, R83, R92, R97; 60_exceptions.md R226). -/

namespace Sys2Proof.Machine

/-! ## Words -/

theorem toNat_add_one_le {a : Word} (h : a ≠ 0xFFFF#16) : a.toNat + 1 ≤ 0xFFFF := by
  have hne : a.toNat ≠ 0xFFFF := fun he => h (BitVec.eq_of_toNat_eq he)
  have hlt := a.isLt
  omega

theorem readU8_not_readable (s : State) {a : Word} (h : ¬readable a) :
    readU8 s a = .error (.memoryFault s.pc a .read) :=
  readU8_unmapped s a (not_not.mp h)

theorem readU16_low_error (s : State) {a : Word} (h : ¬readable a) :
    readU16 s a = .error (.memoryFault s.pc a .read) := by
  rw [readU16, readU8_not_readable s h, error_bind]

/-- The high byte of a word at 0xFFFF is outside the address space (20_memory.md R81, decision D17). -/
theorem readU16_past_end (s : State) : readU16 s 0xFFFF#16 = .error (.memoryFault s.pc 0x0000#16 .read) := by
  rw [readU16, readU8_ok s 0xFFFF#16 (by decide), ok_bind, chk_error s _ _ (by decide), error_bind]
  rfl

theorem readU16_high_error (s : State) {a : Word} (hlow : readable a) (ha : a ≠ 0xFFFF#16)
    (hhigh : ¬readable (a + 1#16)) : readU16 s a = .error (.memoryFault s.pc (a + 1#16) .read) := by
  have hle := toNat_add_one_le ha
  have he : u16 ((a.toNat : Int) + 1) = a + 1#16 := u16_add a 1
  rw [readU16, readU8_ok s a hlow, ok_bind, chk_ok s _ _ (by omega), ok_bind, he, readU8_not_readable s hhigh,
    error_bind]

/-! ## Stored bytes -/

/-- The addresses an instruction stores to are different ones: at most the two stack bytes (20_memory.md R88). -/
theorem storesTo_nodup (f : Form) (s : State) : (f.storesTo s).Nodup := by
  have hpush : u16 (pushAddress s) ≠ u16 (pushAddress s + 1) := by
    intro h
    have hn := congrArg BitVec.toNat h
    simp only [u16, BitVec.toNat_ofInt] at hn
    omega
  cases f with
  | push | call => simpa [Form.storesTo, Form.stores] using hpush
  | _ => simp [Form.storesTo, Form.stores]

/-- Of writes to different addresses each one that has storage is read back (20_memory.md R75, R77). -/
theorem storeAll_read_mem {m : Memory} {bytes : List (Word × Byte)} {a : Word} {v : Byte}
    (hnodup : (bytes.map Prod.fst).Nodup) (hmem : (a, v) ∈ bytes) (ha : storable a) :
    (storeAll m bytes).read a.toNat = v := by
  induction bytes generalizing m with
  | nil => cases hmem
  | cons b bytes ih =>
    obtain ⟨hb, hnodup⟩ := List.nodup_cons.mp hnodup
    obtain rfl | hmem := List.mem_cons.mp hmem
    · have hother : ∀ c ∈ bytes, c.1.toNat ≠ a.toNat := fun c hc he =>
        hb (List.mem_map.mpr ⟨c, hc, BitVec.eq_of_toNat_eq he⟩)
      calc (storeAll (memoryAfter m a v) bytes).read a.toNat
        _ = (memoryAfter m a v).read a.toNat := storeAll_read_ne hother
        _ = v := by rw [memoryAfter_storable m v ha, Memory.read_write_same]
    · exact ih hnodup hmem

/-- A byte that a completed instruction stored stands in memory after it (20_memory.md R92). -/
theorem result_read_stored {f : Form} {s : State} {a : Word} {v : Byte} (h : (a, v) ∈ f.stores s)
    (ha : storable a) : (result f s).mem.read a.toNat = v :=
  storeAll_read_mem (storesTo_nodup f s) h ha

/-! ## An access that faults -/

theorem exec_error {f : Form} {s : State} {r : FaultRecord} (h : effect f s = .error r) :
    exec f.toInstr s = .next { s with status := .faulted r } := by
  rw [exec_toInstr, h]
  rfl

/-- An instruction whose first access is a read that faults takes that fault (60_exceptions.md R226). -/
theorem exec_read_fault {f : Form} {s : State} {a : Word} {next : Byte → Except FaultRecord State}
    (hf : effect f s = readU8 s a >>= next) (h : ¬readable a) :
    exec f.toInstr s = .next { s with status := .faulted (.memoryFault s.pc a .read) } :=
  exec_error (by rw [hf, readU8_not_readable s h, error_bind])

/-- An instruction whose first access is a write that faults takes that fault (60_exceptions.md R226). -/
theorem exec_write_fault {f : Form} {s : State} {a : Word} {v : Byte} {next : State → Except FaultRecord State}
    (hf : effect f s = writeU8 s a v >>= next) (h : ¬acceptsWrite s a) :
    exec f.toInstr s = .next { s with status := .faulted (.memoryFault s.pc a .write) } :=
  exec_error (by rw [hf, writeU8_not_accepted s a v h, error_bind])

theorem not_readable_of_unmapped {a : Word} (h : (regionOf a).kind = .unmapped) : ¬readable a := not_not.mpr h

/-- No write to an unmapped address is accepted, under either policy (20_memory.md R78). -/
theorem not_acceptsWrite_of_unmapped {s : State} {a : Word} (h : (regionOf a).kind = .unmapped) :
    ¬acceptsWrite s a := by
  simp [acceptsWrite, storable, h]

end Sys2Proof.Machine
end

section
/-! The statements about memory (20_memory.md): the map, the bus, ROM, the operands that fault, and the frames of the
instructions that store or transfer control. -/

namespace Sys2Proof.Machine

/-- Settles O16: a write to ROM stores nothing, and a write elsewhere leaves ROM. -/
theorem noStepChangesRom : Obligations.NoStepChangesRom :=
  fun _ _ h _ hn => step_read_rom h hn

/-- Settles O17: the invariant lists no address of ROM1. -/
theorem switchableBankReadsZero : Obligations.SwitchableBankReadsZero := by
  rintro s a ⟨-, hmapped, -, -⟩ ha
  rw [readU8_ok s a (by rw [readable, ha]; exact RegionKind.noConfusion), Memory.read_rom1 hmapped ha]

/-- Settles O20: the load's checks in their order, and what memory reads after it. -/
theorem loadFixedBankCopiesOnceAndChecksTheSize : Obligations.LoadFixedBankCopiesOnceAndChecksTheSize := by
  refine ⟨fun bytes s h hl => ⟨_, loadFixedBank_ok h hl, fun k hk => ?_, fun n hn => ?_, rfl,
    fun again => loadFixedBank_again again rfl⟩, fun _ _ => loadFixedBank_wrongSize, fun policy image host h => ?_⟩
  · exact (Memory.read_loadLow s.mem bytes k).trans ((if_pos hk).trans (List.getD_eq_getElem _ _ hk))
  · exact (Memory.read_loadLow s.mem bytes n).trans (if_neg (by omega))
  · exact run_error host ((boot_eq policy image).trans (if_pos h))

/-- Settles O21: the ranges are disjoint and `regionAt` gives the one that contains the address. -/
theorem everyAddressIsInExactlyOneRegion : Obligations.EveryAddressIsInExactlyOneRegion := by
  refine ⟨fun _ _ => regionAt_eq_iff, fun s a => ⟨rfl, fun hk => ⟨?_, readU8_ok s a hk⟩⟩, rfl⟩
  rw [dumpRegion_getElem? s (offsetOf_lt_size a), first_add_offsetOf]

/-- Settles O22: both ranges are unmapped, and the fetch's first access is a read at the pc. -/
theorem unmappedAddressesFaultOnEveryAccess : Obligations.UnmappedAddressesFaultOnEveryAccess := by
  intro s a v h
  have hk := kind_unmapped_iff.mpr h
  refine ⟨readU8_unmapped s a hk, writeU8_unmapped s a v hk, fetchInstr_error (fetchForm_error_of_first_byte ?_)⟩
  have hfetch := fetchByte_error (s.setPc a) 0 (by simp [hk])
  rwa [State.setPc_pc, BitVec.add_zero] at hfetch

/-- Settles O23: a read after a write; after a boot memory lists addresses of ROM0 alone, where there is no storage. -/
theorem storedByteReadsBack : Obligations.StoredByteReadsBack := by
  refine ⟨fun s a v ha => ⟨_, writeU8_storage s a v ha, ?_, fun n hn => Memory.read_write_ne s.mem _ v hn, rfl⟩,
    fun policy image s a hb ha => ?_⟩
  · rw [readU8_ok _ a (readable_of_storable ha), State.setMem_mem, Memory.read_write_same]
  · obtain ⟨-, rfl⟩ := boot_cases hb
    have hn : ¬a.toNat < 16384 := fun hlt => not_storable_of_lt (by omega) ha
    rw [readU8_ok _ a (readable_of_storable ha), read_bootMemory, if_neg hn]
    rfl

/-- Settles O25: the word read byte by byte, each check in its turn. -/
theorem wordReadIsLittleEndianByteByByte : Obligations.WordReadIsLittleEndianByteByByte := by
  refine fun s a => ⟨readU16_low_error s, ?_, readU16_high_error s, fun hlow ha hhigh => ?_⟩
  · rintro - rfl
    exact readU16_past_end s
  · have hle := toNat_add_one_le ha
    refine ⟨_, readU16_ok s a hle hlow hhigh, ?_⟩
    rw [wordOf_toNat, word_add_one_toNat a hle]

/-- Settles O26: the two bytes stand at two addresses, and the word read puts them together again. -/
theorem wordRoundTripInStorage : Obligations.WordRoundTripInStorage := by
  intro s a v ha hlow hhigh
  have hle := toNat_add_one_le ha
  have hnext := word_add_one_toNat a hle
  have hne : a.toNat ≠ (a + 1#16).toNat := by omega
  refine ⟨_, writeU16_storage s a v hle hlow hhigh, ?_, ?_, ?_, fun n h1 h2 => ?_⟩
  · rw [readU16_ok _ a hle (readable_of_storable hlow) (readable_of_storable hhigh), State.setMem_mem,
      Memory.read_write_same, Memory.read_write_ne _ _ _ hne, Memory.read_write_same, wordOf_hi_lo]
  · rw [State.setMem_mem, Memory.read_write_ne _ _ _ hne, Memory.read_write_same, loByte_toNat]
  · rw [State.setMem_mem, ← hnext, Memory.read_write_same, hiByte_toNat]
  · rw [State.setMem_mem, Memory.read_write_ne _ _ _ (hnext ▸ h2), Memory.read_write_ne _ _ _ h1]

/-- Settles O27: the byte stands in memory, and a fetch reads memory. -/
theorem fetchSeesTheStoredByte : Obligations.FetchSeesTheStoredByte := by
  intro f s t hx ht a v hstores ha u k hu hk
  have hread : t.mem.read a.toNat = v := by
    obtain ⟨rfl, -⟩ | ⟨r, -, rfl⟩ := exec_completes hx
    · rw [Form.toInstr_form]
      exact result_read_stored hstores ha
    · cases ht
  have hlt := a.isLt
  rw [fetchByte_ok u k (by omega) (hk ▸ readable_of_storable ha), hk, hu, hread]

/-- Settles O28: the backed regions are three stretches of addresses. -/
theorem dumpListsTheBackedRegions : Obligations.DumpListsTheBackedRegions := by
  intro s
  rw [dump_eq]
  refine ⟨by simp, fun k hk => ?_, fun k hk => ?_, fun k hk => ?_⟩
  · rw [List.getElem?_map, List.getElem?_append_left (by simpa using hk)]
    simp [hk]
  · simp [List.getElem?_append, hk]
  · have hsplit : 57420 + k = 57344 + (76 + k) := by omega
    simp [hsplit, List.getElem?_append, hk]

/-- Settles O34: each of these reads its operand before anything else. -/
theorem unreadableOperandFaults : Obligations.UnreadableOperandFaults := by
  refine fun s => ⟨fun h => ⟨fun d => exec_read_fault rfl h, fun op => exec_read_fault (aluEffect_eq op .mHL s) h⟩,
    fun nn h => exec_read_fault rfl h, fun n h1 h2 => exec_read_fault rfl ?_, fun h1 h2 => exec_read_fault rfl ?_⟩ <;>
  exact not_readable_of_unmapped (zeroPage_unmapped h1 h2)

/-- Settles O35: each of these stores before it moves the pc. -/
theorem unacceptedStoreFaults : Obligations.UnacceptedStoreFaults := by
  refine fun s => ⟨fun h => ⟨fun r => exec_write_fault rfl h, fun n => exec_write_fault rfl h⟩,
    fun nn h => exec_write_fault rfl h, fun n h1 h2 => exec_write_fault rfl ?_, fun h1 h2 => exec_write_fault rfl ?_⟩ <;>
  exact not_acceptsWrite_of_unmapped (zeroPage_unmapped h1 h2)

/-- Settles O56: the frame that every form has. -/
theorem storesKeepTheRest : Obligations.StoresKeepTheRest :=
  fun _ _ _ _ hx => exec_toInstr_frame hx

/-- Settles O57: the frame that every form has. -/
theorem pushAndCallKeepTheRest : Obligations.PushAndCallKeepTheRest :=
  fun _ _ _ _ hx => exec_toInstr_frame hx

/-- Settles O58: the frame that every form has. -/
theorem popJumpsAndBitResetKeepTheRest : Obligations.PopJumpsAndBitResetKeepTheRest :=
  fun _ _ _ _ hx => exec_toInstr_frame hx

end Sys2Proof.Machine
end

section
/-! The decoder and the encoder are inverse to each other (30_encoding.md R122 to R124): what an opcode reads as its
operands, the rows of the primary table taken one by one, and the statements that follow. -/

namespace Sys2Proof

/-! ## Opcodes and their operand bytes -/

/-- The operand bytes an opcode waits for, and the form it gives with them (30_encoding.md R111, R116). -/
inductive Opcode.Reads : Opcode → List Byte → Form → Prop
  | noOperand (f : Form) : Reads (.noOperand f) [] f
  | operand8 (g : Byte → Form) (n : Byte) : Reads (.operand8 g) [n] (g n)
  | operand16 (g : Word → Form) (lo hi : Byte) : Reads (.operand16 g) [lo, hi] (g (wordOf hi lo))

/-- An opcode that waits for a word reads its two bytes, the low one first (30_encoding.md R116). -/
theorem Opcode.reads_word (g : Word → Form) (nn : Word) :
    (Opcode.operand16 g).Reads [loByte nn, hiByte nn] (g nn) := by
  have h := Reads.operand16 g (loByte nn) (hiByte nn)
  rwa [Machine.wordOf_hi_lo] at h

/-- An opcode that waits for a displacement reads the byte of an encodable one back as it (30_encoding.md R117). -/
theorem Opcode.reads_displacement (g : Int → Form) (e : Int) (h : displacementOk e = true) :
    (Opcode.operand8 fun n => g (sext8 n)).Reads [displacementByte e] (g e) := by
  have hr := Reads.operand8 (fun n => g (sext8 n)) (displacementByte e)
  rwa [sext8_displacementByte e h] at hr

/-- What completing an opcode does: it takes the operand bytes off the front (30_encoding.md R112). -/
theorem Opcode.complete_eq_ok {op : Opcode} {bytes rest : List Byte} {i : Instr} :
    op.complete bytes = .ok (i, rest) ↔
      ∃ operands f, op.Reads operands f ∧ bytes = operands ++ rest ∧ i = f.toInstr := by
  constructor
  · intro h
    unfold Opcode.complete at h
    split at h <;> cases h
    · exact ⟨_, _, .noOperand _, rfl, rfl⟩
    · exact ⟨_, _, .operand8 _ _, rfl, rfl⟩
    · exact ⟨_, _, .operand16 _ _ _, rfl, rfl⟩
  · rintro ⟨operands, f, hr, rfl, rfl⟩
    cases hr <;> rfl

/-! ## The two tables -/

/-- The escape byte is in no row of the primary table (30_encoding.md R112, R128). -/
theorem ne_escapeByte_of_decodePrimary {b : Byte} {op : Opcode} (h : decodePrimary b = some op) : b ≠ escapeByte := by
  rintro rfl
  cases h

theorem decode_of_decodePrimary {b : Byte} {op : Opcode} (h : decodePrimary b = some op) (bytes : List Byte) :
    decode (b :: bytes) = op.complete bytes := by
  rw [decode_primary b bytes (ne_escapeByte_of_decodePrimary h), h]

theorem decode_of_decodeExtended {b : Byte} {f : Form} (h : decodeExtended b = some f) (rest : List Byte) :
    decode (escapeByte :: b :: rest) = .ok (f.toInstr, rest) := by
  rw [decode_extended, h]

/-- An opcode byte and its operand bytes decode to the form they give, whatever follows them. -/
theorem decode_of_reads {b : Byte} {op : Opcode} {operands : List Byte} {f : Form} (h : decodePrimary b = some op)
    (hr : op.Reads operands f) (rest : List Byte) : decode (b :: operands ++ rest) = .ok (f.toInstr, rest) :=
  (decode_of_decodePrimary h _).trans (Opcode.complete_eq_ok.mpr ⟨operands, f, hr, rfl, rfl⟩)

/-- What bytes that decode are: the two bytes of a row of the extended table, or the byte of a row of the primary table
and its operand bytes, with other bytes after them (30_encoding.md R112). -/
theorem decode_cases {bytes rest : List Byte} {i : Instr} (h : decode bytes = .ok (i, rest)) :
    (∃ b f, decodeExtended b = some f ∧ bytes = escapeByte :: b :: rest ∧ i = f.toInstr) ∨
    (∃ b op operands f, decodePrimary b = some op ∧ op.Reads operands f ∧ bytes = b :: operands ++ rest ∧
      i = f.toInstr) := by
  match bytes with
  | [] => cases h
  | b :: tail =>
    by_cases hb : b = escapeByte
    · subst hb
      match tail with
      | [] => cases h
      | b2 :: tail =>
        rw [decode_extended] at h
        split at h
        · next f hf =>
          cases h
          exact .inl ⟨b2, f, hf, rfl, rfl⟩
        · cases h
    · rw [decode_primary b tail hb] at h
      split at h
      · next op hop =>
        obtain ⟨operands, f, hr, rfl, rfl⟩ := Opcode.complete_eq_ok.mp h
        exact .inr ⟨b, op, operands, f, hop, hr, rfl, rfl⟩
      · cases h

/-! ## From a form to its bytes and back -/

theorem decodeExtended_res (b : Fin 8) (r : Reg) :
    decodeExtended (0b10#2 ++ bitIndexCode b ++ r.code) = some (.res b r) := by
  cases r <;> revert b <;> decide

/-- The encoding of a form decodes to it: its first byte is in the row of the form, whose opcode reads the other bytes
(30_encoding.md R122, R123). -/
theorem Form.decode_encode (f : Form) (rest : List Byte) (h : f.wellFormed = true) :
    decode (f.encode ++ rest) = .ok (f.toInstr, rest) := by
  cases f with
  | res b r => exact decode_of_decodeExtended (decodeExtended_res b r) rest
  | ldRegReg d s => exact decode_of_reads (by cases d <;> cases s <;> rfl) (.noOperand _) rest
  | alu op s =>
    cases s with
    | reg r => exact decode_of_reads (by cases op <;> cases r <;> rfl) (.noOperand _) rest
    | mHL => exact decode_of_reads (by cases op <;> rfl) (.noOperand _) rest
    | imm n => exact decode_of_reads (by cases op <;> rfl) (.operand8 (fun n => .alu op (.imm n)) n) rest
  | ldRegMem r | ldMemReg r | incReg r | decReg r => exact decode_of_reads (by cases r <;> rfl) (.noOperand _) rest
  | incPair p | decPair p | push p | pop p => exact decode_of_reads (by cases p <;> rfl) (.noOperand _) rest
  | ldAIndexC | ldIndexCA | ret | nop | di => exact decode_of_reads rfl (.noOperand _) rest
  | ldRegImm d n => exact decode_of_reads (by cases d <;> rfl) (.operand8 (.ldRegImm d) n) rest
  | ldMemImm n => exact decode_of_reads rfl (.operand8 .ldMemImm n) rest
  | ldhAOffset n => exact decode_of_reads rfl (.operand8 .ldhAOffset n) rest
  | ldhOffsetA n => exact decode_of_reads rfl (.operand8 .ldhOffsetA n) rest
  | jrCond cc e => exact decode_of_reads (by cases cc <;> rfl) (Opcode.reads_displacement (.jrCond cc) e h) rest
  | jr e => exact decode_of_reads rfl (Opcode.reads_displacement .jr e h) rest
  | ldPairImm dd nn => exact decode_of_reads (by cases dd <;> rfl) (Opcode.reads_word (.ldPairImm dd) nn) rest
  | ldADirect nn => exact decode_of_reads rfl (Opcode.reads_word .ldADirect nn) rest
  | ldDirectA nn => exact decode_of_reads rfl (Opcode.reads_word .ldDirectA nn) rest
  | jp nn => exact decode_of_reads rfl (Opcode.reads_word .jp nn) rest
  | call nn => exact decode_of_reads rfl (Opcode.reads_word .call nn) rest

/-! ## From bytes to the form and back -/

/-- The byte and the operand bytes with which an opcode gives a form are the form's encoding (30_encoding.md R124). -/
def Opcode.Encodes (op : Opcode) (b : Byte) : Prop :=
  ∀ operands f, op.Reads operands f → f.wellFormed = true ∧ f.encode = b :: operands

theorem Opcode.encodes_operand8 {g : Byte → Form} {b : Byte}
    (h : ∀ n, (g n).wellFormed = true ∧ (g n).encode = [b, n]) : (Opcode.operand8 g).Encodes b := by
  rintro _ _ ⟨⟩
  exact h _

theorem Opcode.encodes_operand16 {g : Word → Form} {b : Byte}
    (h : ∀ nn, (g nn).wellFormed = true ∧ (g nn).encode = [b, loByte nn, hiByte nn]) :
    (Opcode.operand16 g).Encodes b := by
  rintro _ _ ⟨⟩
  simpa using h (wordOf _ _)

theorem Opcode.encodes_displacement {g : Int → Form} {b : Byte} (hw : ∀ e, (g e).wellFormed = displacementOk e)
    (he : ∀ e, (g e).encode = [b, displacementByte e]) : (Opcode.operand8 fun n => g (sext8 n)).Encodes b :=
  encodes_operand8 fun n => by
    obtain ⟨hbyte, hok⟩ := displacementByte_sext8 n
    exact ⟨(hw _).trans hok, by rw [he, hbyte]⟩

/-- A row of the primary table drops no bit of the bytes it matches. -/
def PrimaryRow.Sound (row : PrimaryRow) : Prop :=
  ∀ b op, b &&& row.mask = row.pattern → row.opcode b = some op → op.Encodes b

/-- Whether an opcode without operands is that of a form encoded as the byte alone. -/
def Opcode.encodesAlone (b : Byte) : Opcode → Bool
  | .noOperand f => f.wellFormed && decide (f.encode = [b])
  | .operand8 _ => false
  | .operand16 _ => false

theorem Opcode.encodes_of_encodesAlone {b : Byte} {op : Opcode} (h : op.encodesAlone b = true) : op.Encodes b := by
  cases op with
  | noOperand f =>
    rintro _ _ ⟨⟩
    simpa [encodesAlone] using h
  | operand8 g => cases h
  | operand16 g => cases h

/-- A row without operands is sound when each byte it matches is, which is a check over the 256 bytes. -/
theorem PrimaryRow.sound_of_alone {row : PrimaryRow}
    (h : ∀ b, b &&& row.mask = row.pattern → (row.opcode b).all (·.encodesAlone b) = true) : row.Sound := by
  intro b op hb hop
  have hall := h b hb
  rw [hop] at hall
  exact Opcode.encodes_of_encodesAlone hall

theorem PrimaryRow.sound_of_encodes {mask pattern : Byte} {op : Byte → Opcode}
    (h : ∀ b, b &&& mask = pattern → (op b).Encodes b) : Sound ⟨mask, pattern, fun b => some (op b)⟩ := by
  rintro b _ hb ⟨⟩
  exact h b hb

/-- A row that matches one byte. -/
theorem PrimaryRow.sound_of_byte {pattern : Byte} {op : Opcode} (h : op.Encodes pattern) :
    Sound ⟨0b11111111, pattern, fun _ => some op⟩ :=
  sound_of_encodes fun b hb => by
    obtain rfl : b = pattern := by rwa [show (0b11111111 : Byte) = BitVec.allOnes 8 from rfl, BitVec.and_allOnes] at hb
    exact h

/-- A row that matches one byte and waits for another one. -/
theorem PrimaryRow.sound_of_byte_operand8 {pattern : Byte} {g : Byte → Form}
    (h : ∀ n, (g n).wellFormed = true ∧ (g n).encode = [pattern, n]) :
    Sound ⟨0b11111111, pattern, fun _ => some (.operand8 g)⟩ :=
  sound_of_byte (Opcode.encodes_operand8 h)

/-- A row that matches one byte and waits for a word. -/
theorem PrimaryRow.sound_of_byte_operand16 {pattern : Byte} {g : Word → Form}
    (h : ∀ nn, (g nn).wellFormed = true ∧ (g nn).encode = [pattern, loByte nn, hiByte nn]) :
    Sound ⟨0b11111111, pattern, fun _ => some (.operand16 g)⟩ :=
  sound_of_byte (Opcode.encodes_operand16 h)

theorem PrimaryRow.sound_ldPairImm :
    Sound ⟨0b11001111, 0b00000001, fun b => some (.operand16 (.ldPairImm (DPair.ofCode (field54 b))))⟩ :=
  sound_of_encodes fun b hb => Opcode.encodes_operand16 fun nn => by
    have hbyte : ∀ b : Byte, b &&& 0b11001111 = 0b00000001 →
        0b00#2 ++ (DPair.ofCode (field54 b)).code ++ 0b0001#4 = b := by decide
    exact ⟨rfl, congrArg (· :: _) (hbyte b hb)⟩

theorem PrimaryRow.sound_jrCond :
    Sound ⟨0b11100111, 0b00100000, fun b => some (.operand8 fun e => .jrCond (Cond.ofCode (field43 b)) (sext8 e))⟩ :=
  sound_of_encodes fun b hb => Opcode.encodes_displacement (fun _ => rfl) fun e => by
    have hbyte : ∀ b : Byte, b &&& 0b11100111 = 0b00100000 →
        0b001#3 ++ (Cond.ofCode (field43 b)).code ++ 0b000#3 = b := by decide
    exact congrArg (· :: _) (hbyte b hb)

theorem PrimaryRow.sound_loadImm : Sound ⟨0b11000111, 0b00000110, fun b => loadImmOpcode (field53 b)⟩ := by
  intro b op hb hop
  have hbyte : ∀ b : Byte, b &&& 0b11000111 = 0b00000110 →
      0b00#2 ++ (Reg.ofCode (field53 b)).elim 0b110#3 Reg.code ++ 0b110#3 = b := by decide
  have hbyte := hbyte b hb
  simp only [loadImmOpcode] at hop
  cases hr : Reg.ofCode (field53 b) <;>
  · rw [hr] at hop hbyte
    cases hop
    exact Opcode.encodes_operand8 fun n => ⟨rfl, congrArg (· :: _) hbyte⟩

/-- Every row of the primary table is sound (30_encoding.md R122). -/
theorem PrimaryRow.sound_of_mem : ∀ row ∈ primaryRows, row.Sound := by
  simp only [primaryRows, List.forall_mem_append, List.forall_mem_cons, List.not_mem_nil, false_imp_iff,
    implies_true, and_true]
  refine ⟨⟨⟨?nop, sound_ldPairImm, ?incPair, ?decPair, ?incReg, ?decReg, sound_loadImm, ?jr, sound_jrCond, ?load⟩,
    ?add, ?sub, ?and, ?xor, ?or, ?cp, ?addImm, ?subImm, ?andImm, ?xorImm, ?orImm, ?cpImm⟩,
    ?pop, ?push, ?jp, ?call, ?ret, ?ldADirect, ?ldDirectA, ?ldhAOffset, ?ldhOffsetA, ?ldAIndexC, ?ldIndexCA, ?di⟩
  case jr => exact sound_of_byte (Opcode.encodes_displacement (fun _ => rfl) fun _ => rfl)
  case addImm | subImm | andImm | xorImm | orImm | cpImm | ldhAOffset | ldhOffsetA =>
    exact sound_of_byte_operand8 fun _ => ⟨rfl, rfl⟩
  case jp | call | ldADirect | ldDirectA => exact sound_of_byte_operand16 fun _ => ⟨rfl, rfl⟩
  all_goals exact sound_of_alone (by decide)

theorem decodePrimary_encodes {b : Byte} {op : Opcode} (h : decodePrimary b = some op) : op.Encodes b := by
  unfold decodePrimary at h
  split at h
  · next row hrow =>
    have hmatch : b &&& row.mask = row.pattern := by simpa using List.find?_some hrow
    exact PrimaryRow.sound_of_mem row (List.mem_of_find?_eq_some hrow) b op hmatch h
  · cases h

/-- An extended byte that decodes is the second byte of the form's encoding (30_encoding.md R123, R124). -/
theorem decodeExtended_encodes : ∀ b : Byte, ∀ f ∈ decodeExtended b,
    f.wellFormed = true ∧ f.encode = [escapeByte, b] := by
  decide

/-- Bytes that decode are the encoding of the instruction and the bytes after it (30_encoding.md R122, R124). -/
theorem encode_of_decode {bytes rest : List Byte} {i : Instr} (h : decode bytes = .ok (i, rest)) :
    i.wellFormed = true ∧ bytes = encode i ++ rest := by
  obtain ⟨b, f, hf, rfl, rfl⟩ | ⟨b, op, operands, f, hop, hr, rfl, rfl⟩ := decode_cases h
  · obtain ⟨hw, he⟩ := decodeExtended_encodes b f hf
    rw [Instr.wellFormed, encode, Form.toInstr_form, he]
    exact ⟨hw, rfl⟩
  · obtain ⟨hw, he⟩ := decodePrimary_encodes hop operands f hr
    rw [Instr.wellFormed, encode, Form.toInstr_form, he]
    exact ⟨hw, rfl⟩

/-! ## The Undefined bytes -/

theorem undefinedPrimary_isNone : ∀ b ∈ undefinedPrimary, b ≠ escapeByte ∧ (decodePrimary b).isNone = true :=
  List.all_iff_forall_prop.mp (by decide)

theorem mem_undefinedPrimary : ∀ b : Byte, (decodePrimary b).isNone = true → b ≠ escapeByte →
    b ∈ undefinedPrimary := by
  decide

theorem decodeExtended_isNone_iff : ∀ b : Byte, (decodeExtended b).isNone = true ↔ undefinedExtended b = true := by
  decide

theorem decode_undefinedPrimary {b : Byte} (h : b ∈ undefinedPrimary) (rest : List Byte) :
    decode (b :: rest) = .error (.undefined [b]) := by
  obtain ⟨hb, hnone⟩ := undefinedPrimary_isNone b h
  rw [decode_primary b rest hb, Option.isNone_iff_eq_none.mp hnone]

theorem decode_undefinedExtended {b : Byte} (h : undefinedExtended b = true) (rest : List Byte) :
    decode (escapeByte :: b :: rest) = .error (.undefined [escapeByte, b]) := by
  have hnone := (decodeExtended_isNone_iff b).mpr h
  rw [decode_extended, Option.isNone_iff_eq_none.mp hnone]

end Sys2Proof
end

section
/-! The fetch reads the bytes that stand at the pc as the decoder does, and faults at the first one it cannot read
(30_encoding.md R112, 60_exceptions.md R227). -/

namespace Sys2Proof.Machine

/-! ## Bytes that stand in memory -/

theorem codeAt_getElem? {s : State} {n k : Nat} {bytes : List Byte} {v : Byte} (h : codeAt s n bytes)
    (hk : bytes[k]? = some v) : n + k ≤ 0xFFFF ∧ (regionAt (n + k)).kind ≠ .unmapped ∧ s.mem.read (n + k) = v := by
  induction bytes generalizing n k with
  | nil => cases hk
  | cons b bytes ih =>
    obtain ⟨hle, hkind, hread, htail⟩ := h
    cases k with
    | zero =>
      cases hk
      exact ⟨hle, hkind, hread⟩
    | succ k =>
      rw [show n + (k + 1) = n + 1 + k by omega]
      exact ih htail hk

/-- A byte that stands at its place after the pc is fetched (30_encoding.md R112). -/
theorem fetchByte_codeAt {s : State} {bytes : List Byte} {k : Nat} {v : Byte} (h : codeAt s s.pc.toNat bytes)
    (hk : bytes[k]? = some v) : fetchByte s k = .ok v := by
  obtain ⟨hle, hkind, hread⟩ := codeAt_getElem? h hk
  rw [fetchByte_ok s k hle hkind, hread]

/-! ## A fetch that succeeds -/

theorem fetchExtended_ok {s : State} {b : Byte} {f : Form} (h : fetchByte s 1 = .ok b)
    (hf : decodeExtended b = some f) : fetchExtended s = .ok f := by
  rw [fetchExtended, h, ok_bind, hf]

theorem fetchOperands_ok {s : State} {b : Byte} {op : Opcode} {operands : List Byte} {f : Form}
    (h : codeAt s s.pc.toNat (b :: operands)) (hr : op.Reads operands f) : fetchOperands s op = .ok f := by
  cases hr with
  | noOperand f => rfl
  | operand8 g n => rw [fetchOperands, fetchByte_codeAt h rfl, ok_bind]
  | operand16 g lo hi => rw [fetchOperands, fetchByte_codeAt h rfl, ok_bind, fetchByte_codeAt h rfl, ok_bind]

/-- The fetch of a byte of the primary table goes on to its operands (30_encoding.md R112). -/
theorem fetchForm_of_decodePrimary {s : State} {b : Byte} {op : Opcode} (h : fetchByte s 0 = .ok b)
    (hop : decodePrimary b = some op) : fetchForm s = fetchOperands s op := by
  rw [fetchForm_of_first_byte h, if_neg (ne_escapeByte_of_decodePrimary hop), fetchPrimary, hop]

/-- The fetch of the escape byte goes on to the extended table (30_encoding.md R112). -/
theorem fetchForm_of_escapeByte {s : State} (h : fetchByte s 0 = .ok escapeByte) : fetchForm s = fetchExtended s := by
  rw [fetchForm_of_first_byte h, if_pos rfl]

/-- The instruction at the pc is the one its bytes decode to (70_reset_and_hazards.md R255). -/
theorem fetchInstr_of_decode {s : State} {bytes : List Byte} {i : Instr} (h : codeAt s s.pc.toNat bytes)
    (hd : decode bytes = .ok (i, [])) : fetchInstr s = .ok i := by
  obtain ⟨b, f, hf, rfl, rfl⟩ | ⟨b, op, operands, f, hop, hr, rfl, rfl⟩ := decode_cases hd
  · exact fetchInstr_ok ((fetchForm_of_escapeByte (fetchByte_codeAt h rfl)).trans
      (fetchExtended_ok (fetchByte_codeAt h rfl) hf))
  · rw [List.append_nil] at h
    exact fetchInstr_ok ((fetchForm_of_decodePrimary (fetchByte_codeAt h rfl) hop).trans (fetchOperands_ok h hr))

theorem step_of_fetch {s : State} {i : Instr} (hs : s.status = .running) (hl : s.romLoaded = true)
    (hr : s.stopRequest = false) (hf : fetchInstr s = .ok i) : step s = exec i s := by
  rw [step_running hs hl, runningStep_fetch hr, hf]

/-! ## A fetch that faults -/

theorem step_of_fetch_error {s : State} {r : FaultRecord} (hs : s.status = .running) (hl : s.romLoaded = true)
    (hr : s.stopRequest = false) (hf : fetchForm s = .error r) : step s = .next (takeFault s r) := by
  rw [step_running hs hl, runningStep_fetch hr, fetchInstr_error hf]

theorem fetchExtended_error {s : State} {r : FaultRecord} (h : fetchByte s 1 = .error r) :
    fetchExtended s = .error r := by
  rw [fetchExtended, h, error_bind]

/-- The operand bytes are fetched in their order up to the first that cannot be read (30_encoding.md R112). -/
theorem fetchOperands_error {s : State} {b : Byte} {op : Opcode} {before : List Byte} {r : FaultRecord}
    (h : codeAt s s.pc.toNat (b :: before)) (hlen : before.length + 1 < op.length)
    (hr : fetchByte s (before.length + 1) = .error r) : fetchOperands s op = .error r := by
  cases op with
  | noOperand f => exact absurd hlen (by simp [Opcode.length])
  | operand8 g =>
    obtain rfl : before = [] := by simpa [Opcode.length] using hlen
    rw [List.length_nil] at hr
    rw [fetchOperands, hr, error_bind]
  | operand16 g =>
    cases before with
    | nil =>
      rw [List.length_nil] at hr
      rw [fetchOperands, hr, error_bind]
    | cons lo before =>
      have hlen : before.length + 2 < 3 := hlen
      obtain rfl : before = [] := List.eq_nil_of_length_eq_zero (by omega)
      rw [List.length_singleton] at hr
      rw [fetchOperands, fetchByte_codeAt h rfl, ok_bind, hr, error_bind]

end Sys2Proof.Machine
end

section
/-! Jumps that complete (42_control.md R190 to R192). -/

namespace Sys2Proof.Machine

theorem exec_ok {f : Form} {s t : State} (h : effect f s = .ok t) : exec f.toInstr s = .next t := by
  rw [exec_toInstr, h, commit_ok]

/-- A relative jump whose target is in the address space goes to it. -/
theorem jumpRelative_ok {e : Int} {s : State}
    (h : 0 ≤ (s.pc.toNat : Int) + 2 + e ∧ (s.pc.toNat : Int) + 2 + e ≤ 0xFFFF) :
    jumpRelative e s = .ok (s.setPc (u16 (s.pc.toNat + 2 + e))) := by
  rw [jumpRelative, chk_ok s _ _ h, ok_bind]

theorem jrCond_taken {cc : Cond} (e : Int) {s : State} (h : s.condHolds cc = true) :
    jrCond cc e s = jumpRelative e s := if_pos h

theorem jrCond_not_taken {cc : Cond} (e : Int) {s : State} (h : s.condHolds cc = false) :
    jrCond cc e s = advance s 2 := if_neg (by simp [h])

end Sys2Proof.Machine
end

section
/-! The statements about the encoding and the fetch (30_encoding.md), and the jumps. -/

namespace Sys2Proof.Machine

/-- Settles O1: a row of the table is a form, whose encoding decodes to it. -/
theorem decodeOfEncodeGivesTheInstruction : Obligations.DecodeOfEncodeGivesTheInstruction := by
  intro i rest h
  rw [encode, i.form.decode_encode rest h, i.toInstr_form]

/-- Settles O2: both tables drop no bit of an opcode byte, and an opcode reads whole operand bytes. -/
theorem decodedBytesAreTheEncoding : Obligations.DecodedBytesAreTheEncoding :=
  fun _ _ _ => encode_of_decode

/-- Settles O3: both tables checked byte by byte; a byte in no row is reported. -/
theorem undefinedOpcodesAreExactlyTheListed : Obligations.UndefinedOpcodesAreExactlyTheListed :=
  ⟨rfl, fun b hb => ⟨fun h => mem_undefinedPrimary b h hb, fun h => (undefinedPrimary_isNone b h).2⟩,
    decodeExtended_isNone_iff, fun _ rest h => decode_undefinedPrimary h rest,
    fun _ rest h => decode_undefinedExtended h rest⟩

/-- Settles O4: each word runs through the decoder. -/
theorem writtenOutWordsDecode : Obligations.WrittenOutWordsDecode :=
  ⟨rfl, rfl, rfl, rfl, rfl, rfl, rfl, rfl, rfl, rfl, rfl⟩

/-- Settles O5: the fetch gives the instruction that the bytes decode to. -/
theorem stepRunsTheDecodedInstruction : Obligations.StepRunsTheDecodedInstruction :=
  fun _ _ _ hs hl hr hcode hd => step_of_fetch hs hl hr (fetchInstr_of_decode hcode hd)

/-- Settles O7: the bytes before the unreadable one are fetched, and the fetch of that one is the fault. -/
theorem fetchFaultsAtTheFirstUnreadableByte : Obligations.FetchFaultsAtTheFirstUnreadableByte := by
  intro s hs hl hr
  refine ⟨fun h => ?_, fun hcode h => ?_, fun b op before _ hop hcode hlen h => ?_⟩ <;>
    apply step_of_fetch_error hs hl hr
  · have hfetch := fetchByte_error s 0 (by simpa using fun _ => h)
    rw [BitVec.add_zero] at hfetch
    exact fetchForm_error_of_first_byte hfetch
  · rw [fetchForm_of_escapeByte (fetchByte_codeAt hcode rfl)]
    exact fetchExtended_error (fetchByte_error s 1 h)
  · rw [fetchForm_of_decodePrimary (fetchByte_codeAt hcode rfl) hop]
    exact fetchOperands_error hcode hlen (fetchByte_error s _ h)

/-- Settles O42: the target, where it is in the address space, is reached without wrapping. -/
theorem jumpsComplete : Obligations.JumpsComplete := by
  refine fun s => ⟨fun nn => exec_ok (f := .jp nn) rfl, fun e h0 h1 => ?_, fun cc e hpc hc => ?_, rfl, rfl, rfl, rfl⟩
  · have hjump := jumpRelative_ok ⟨h0, h1⟩
    have htarget := u16_toNat _ ⟨h0, h1⟩
    exact ⟨⟨_, exec_ok (f := .jr e) hjump, htarget, rfl⟩,
      fun cc hc => ⟨_, exec_ok (f := .jrCond cc e) ((jrCond_taken e hc).trans hjump), htarget, rfl⟩⟩
  · exact exec_ok (f := .jrCond cc e) ((jrCond_not_taken e hc).trans (advance_ok s 2 hpc))

end Sys2Proof.Machine
end

section
/-! An instruction that transfers no control and whose accesses succeed writes what its form names, and then its next pc
is checked (20_memory.md R80, R82; 43_stack.md R202; 70_reset_and_hazards.md R256). -/

namespace Sys2Proof.Machine

/-! ## The accesses -/

/-- An instruction that forms no stack address needs its reads and its stores alone to succeed. -/
theorem accessesSucceed_of_sp {f : Form} {s : State} (hreads : ∀ a ∈ f.readsFrom s, readable a)
    (hwrites : ∀ a ∈ f.storesTo s, acceptsWrite s a) (hsp : f.stackPointerAfter s = s.sp.toNat) :
    f.AccessesSucceed s := by
  have hlt := s.sp.isLt
  exact ⟨hreads, hwrites, by omega⟩

/-- A sequence whose first part succeeds goes on to its second. -/
theorem bind_eq_of_ok {ε α β : Type} {x : Except ε α} {a : α} {next : α → Except ε β} (h : x = .ok a) :
    (x >>= next) = next a := by
  rw [h, ok_bind]

theorem readSource_ok {s : State} {src : Src} (h : sourceReadable s src) :
    readSource s src = .ok (sourceValue s src) := by
  cases src with
  | mHL => exact readU8_ok s _ (h rfl)
  | reg | imm => rfl

/-- PUSH stores the two bytes of its pair and lowers SP (43_stack.md R200, R202). -/
theorem push16_of_accesses {qq : QPair} {s : State} (h : (Form.push qq).AccessesSucceed s) :
    push16 s (s.readStackPair qq) = .ok (written (.push qq) s) := by
  obtain ⟨-, hwrites, hnonneg, -⟩ := h
  obtain ⟨hlo, hhi⟩ := List.forall_mem_cons.mp hwrites
  have hhi := List.forall_mem_singleton.mp hhi
  have hnonneg : (0 : Int) ≤ s.sp.toNat - 2 := hnonneg
  have hsp : 2 ≤ s.sp.toNat := by omega
  have hfirst : u16 (pushAddress s) = s.sp - 2 := (push_addresses hsp).1
  have hsecond := push_second_address hsp
  rw [push16_ok s _ hsp (hfirst ▸ hlo) (hsecond ▸ hhi), ← hfirst, ← hsecond]
  rfl

/-- POP reads the word on top of the stack and raises SP (43_stack.md R201, R202). -/
theorem pop16_of_accesses {qq : QPair} {s : State} (h : (Form.pop qq).AccessesSucceed s) :
    pop16 s = .ok (stackWord s, s.setSp (s.sp + 2#16)) := by
  obtain ⟨hreads, -, -, hle⟩ := h
  obtain ⟨hlo, hhi⟩ := List.forall_mem_cons.mp hreads
  have hhi : readable (s.sp + 1#16) := List.forall_mem_singleton.mp hhi
  have hle : (s.sp.toNat : Int) + 2 ≤ 0xFFFF := hle
  rw [pop16_ok s (by omega) hlo hhi, ← word_add_one_toNat s.sp (by omega)]
  rfl

/-! ## The instruction -/

/-- What is left of an instruction whose accesses succeed is the check of its next pc (70_reset_and_hazards.md R256). -/
theorem effect_of_accesses {f : Form} {s : State} (hf : f.transfers = false) (h : f.AccessesSucceed s) :
    effect f s = advance (written f s) f.length := by
  cases f with
  | jp | jrCond | jr | call | ret => cases hf
  | ldRegReg | ldRegImm | ldPairImm | incReg | decReg | incPair | decPair | res | nop | di =>
    rw [written_of_no_stores rfl]
    rfl
  | ldRegMem | ldADirect | ldhAOffset | ldAIndexC =>
    have hread := List.forall_mem_singleton.mp h.reads
    rw [written_of_no_stores rfl]
    exact bind_eq_of_ok (readU8_ok s _ hread)
  | ldMemReg | ldMemImm | ldDirectA | ldhOffsetA | ldIndexCA =>
    have hwrite := List.forall_mem_singleton.mp h.writes
    exact bind_eq_of_ok (writeU8_ok s _ _ hwrite)
  | alu op src =>
    have hsrc : sourceReadable s src := by
      rintro rfl
      exact List.forall_mem_singleton.mp h.reads
    rw [written_of_no_stores rfl]
    exact (aluEffect_eq op src s).trans (bind_eq_of_ok (readSource_ok hsrc))
  | push => exact bind_eq_of_ok (push16_of_accesses h)
  | pop =>
    rw [written_of_no_stores rfl]
    show pop _ s = _
    rw [pop, pop16_of_accesses h, ok_bind]
    rfl

/-- An instruction whose accesses succeed completes wherever its next pc is in the address space. -/
theorem exec_of_accesses {f : Form} {s : State} (hf : f.transfers = false) (h : f.AccessesSucceed s)
    (hl : s.pc.toNat + f.length ≤ 0xFFFF) : exec f.toInstr s = .next (result f s) := by
  have hpc : (written f s).pc = s.pc := by simp [written]
  refine exec_ok ?_
  rw [effect_of_accesses hf h, advance_ok _ _ (by rwa [hpc]), result, nextPc_of_not_transfers s hf, hpc]

end Sys2Proof.Machine
end

section
/-! Loads: those that complete, and the one destination of each (40_load.md R152). -/

namespace Sys2Proof.Machine

/-! ## Loads that complete -/

/-- A load writes no flag, transfers no control and forms no stack address (40_load.md R152). -/
theorem isLoad_properties {f : Form} (h : f.isLoad = true) :
    f.writesZNH = false ∧ f.transfers = false ∧ ∀ s : State, f.stackPointerAfter s = s.sp.toNat := by
  cases f with
  | ldRegReg | ldRegMem | ldMemReg | ldRegImm | ldPairImm | ldMemImm | ldADirect | ldDirectA | ldhAOffset | ldhOffsetA
  | ldAIndexC | ldIndexCA => exact ⟨rfl, rfl, fun _ => rfl⟩
  | _ => cases h

/-- A load whose reads and stores succeed completes wherever the next pc is in the address space. -/
theorem exec_load {f : Form} {s : State} (hload : f.isLoad = true) (hreads : ∀ a ∈ f.readsFrom s, readable a)
    (hwrites : ∀ a ∈ f.storesTo s, acceptsWrite s a) (hl : s.pc.toNat + f.length ≤ 0xFFFF) :
    exec f.toInstr s = .next (result f s) := by
  obtain ⟨-, htransfers, hsp⟩ := isLoad_properties hload
  exact exec_of_accesses htransfers (accessesSucceed_of_sp hreads hwrites (hsp s)) hl

theorem exec_register_load {f : Form} {s : State} (hload : f.isLoad = true) (hreads : f.readsFrom s = [])
    (hwrites : f.storesTo s = []) (hl : s.pc.toNat + f.length ≤ 0xFFFF) : exec f.toInstr s = .next (result f s) :=
  exec_load hload (by simp [hreads]) (by simp [hwrites]) hl

theorem exec_memory_load {f : Form} {s : State} {a : Word} (hload : f.isLoad = true) (hreads : f.readsFrom s = [a])
    (hwrites : f.storesTo s = []) (ha : readable a) (hl : s.pc.toNat + f.length ≤ 0xFFFF) :
    exec f.toInstr s = .next (result f s) :=
  exec_load hload (by simpa [hreads] using ha) (by simp [hwrites]) hl

theorem exec_store {f : Form} {s : State} {a : Word} (hload : f.isLoad = true) (hreads : f.readsFrom s = [])
    (hwrites : f.storesTo s = [a]) (ha : acceptsWrite s a) (hl : s.pc.toNat + f.length ≤ 0xFFFF) :
    exec f.toInstr s = .next (result f s) :=
  exec_load hload (by simp [hreads]) (by simpa [hwrites] using ha) hl

/-! ## Zero-page addresses -/

theorem storable_of_contains {a : Word} {r : Region} (hk : r.kind = .storage)
    (h : r.first ≤ a.toNat ∧ a.toNat ≤ r.last) : storable a := by
  rw [storable, regionOf_eq_iff.mpr h, hk]

/-- The zero page has storage outside its unmapped range: IO below it and HRAM above it (30_encoding.md R118,
20_memory.md R71). -/
theorem zeroPage_storable {n : Byte} (h : ¬(0x4C ≤ n.toNat ∧ n.toNat ≤ 0x7F)) : storable (zeroPage n) := by
  have hn := n.isLt
  have haddr := zeroPage_toNat n
  obtain hio | hhram : n.toNat < 0x4C ∨ 0x7F < n.toNat := by omega
  · exact storable_of_contains (r := .io) rfl (by rw [Region.first, Region.last]; omega)
  · exact storable_of_contains (r := .hram) rfl (by rw [Region.first, Region.last]; omega)

/-- A store to the zero page that is accepted has storage (20_memory.md R77). -/
theorem memoryAfter_zeroPage (m : Memory) {n : Byte} (v : Byte) (h : storable (zeroPage n)) :
    memoryAfter m (zeroPage n) v = m.write (0xFF00 + n.toNat) v := by
  rw [memoryAfter_storable m v h, zeroPage_toNat]

/-! ## The one destination -/

@[simp] theorem State.setPc_readPair (s : State) (v : Word) (dd : DPair) : (s.setPc v).readPair dd = s.readPair dd := by
  cases dd <;> rfl

/-- An instruction that stores nothing and writes one register leaves the rest, but for the pc. -/
theorem result_of_register_load {f : Form} {s : State} {d : Reg} {v : Byte} (hr : registersAfter f s = s.writeReg d v)
    (hs : f.stores s = []) :
    result f s = { s with regs := s.regs.write d ((result f s).readReg d), pc := (result f s).pc } := by
  simp only [result, written_of_no_stores hs, hr, State.setPc_readReg, State.writeReg_readReg]
  rfl

/-- An instruction that stores nothing and writes one pair leaves the rest, but for the pc. -/
theorem result_of_pair_load {f : Form} {s : State} {dd : DPair} {v : Word} (hr : registersAfter f s = s.writePair dd v)
    (hs : f.stores s = []) :
    result f s = { s.writePair dd ((result f s).readPair dd) with pc := (result f s).pc } := by
  simp only [result, written_of_no_stores hs, hr, State.setPc_readPair, State.readPair_writePair]
  rfl

/-- A write's memory is given by the byte that stands at its address after it (20_memory.md R76, R77). -/
theorem memoryAfter_read_same (m : Memory) (a : Word) (v : Byte) :
    memoryAfter m a ((memoryAfter m a v).read a.toNat) = memoryAfter m a v := by
  by_cases h : storable a
  · rw [memoryAfter_storable m v h, Memory.read_write_same, memoryAfter_storable m v h]
  · rw [memoryAfter_rom m v h, memoryAfter_rom m _ h]

/-- An instruction that writes no register and stores one byte leaves the rest, but for the pc. -/
theorem result_of_store {f : Form} {s : State} {a : Word} {v : Byte} (hr : registersAfter f s = s)
    (hs : f.stores s = [(a, v)]) :
    result f s = { s with mem := memoryAfter s.mem a ((result f s).mem.read a.toNat), pc := (result f s).pc } := by
  have hmem : (result f s).mem = memoryAfter s.mem a v := by rw [result_mem, hs]; rfl
  rw [hmem, memoryAfter_read_same, result, written, hr, hs]
  rfl

/-- An instruction that leaves the machine running has completed (60_exceptions.md R226). -/
theorem completes_of_running {i : Instr} {s t : State} (h : exec i s = .next t) (ht : t.status = .running) :
    Completes i.form s t := by
  obtain hok | ⟨r, -, rfl⟩ := exec_completes h
  · exact hok
  · cases ht

end Sys2Proof.Machine
end

section
/-! The statements about the loads (40_load.md). -/

namespace Sys2Proof.Machine

/-- Settles O30: these access no memory, so they complete wherever the next pc is in the address space. -/
theorem registerLoadsComplete : Obligations.RegisterLoadsComplete :=
  fun _ => ⟨fun hpc _ _ => exec_register_load rfl rfl rfl hpc, fun hpc _ _ => exec_register_load rfl rfl rfl hpc,
    fun hpc _ => ⟨exec_register_load rfl rfl rfl hpc, exec_register_load rfl rfl rfl hpc,
      exec_register_load rfl rfl rfl hpc, exec_register_load rfl rfl rfl hpc⟩⟩

/-- Settles O31: each reads one address, which for an offset outside the unmapped range has storage. -/
theorem loadsFromMemoryComplete : Obligations.LoadsFromMemoryComplete := by
  refine fun s => ⟨fun hpc ha d => ?_, fun hpc nn ha => exec_memory_load rfl rfl rfl ha hpc, fun hpc n hn => ?_,
    fun hpc hc => ?_⟩
  · rw [← wordOf_toNat]
    exact exec_memory_load rfl rfl rfl ha hpc
  · rw [← zeroPage_toNat]
    exact exec_memory_load rfl rfl rfl (readable_of_storable (zeroPage_storable hn)) hpc
  · rw [← zeroPage_toNat]
    exact exec_memory_load rfl rfl rfl (readable_of_storable (zeroPage_storable hc)) hpc

/-- Settles O32: each writes one address, which for an offset outside the unmapped range has storage. -/
theorem storesComplete : Obligations.StoresComplete := by
  refine fun s => ⟨fun hpc ha r => exec_store rfl rfl rfl ha hpc, fun hpc ha n => exec_store rfl rfl rfl ha hpc,
    fun hpc nn ha => exec_store rfl rfl rfl ha hpc, fun hpc n hn => ?_, fun hpc hc => ?_⟩
  · rw [← memoryAfter_zeroPage s.mem _ (zeroPage_storable hn)]
    exact exec_store rfl rfl rfl (.inl (zeroPage_storable hn)) hpc
  · rw [← memoryAfter_zeroPage s.mem _ (zeroPage_storable hc)]
    exact exec_store rfl rfl rfl (.inl (zeroPage_storable hc)) hpc

/-- Settles O33: a load that completes leaves its result, whose one destination is that of its form. -/
theorem loadWritesOneDestinationAndNoFlag : Obligations.LoadWritesOneDestinationAndNoFlag := by
  intro i s t hload _ hx ht
  obtain ⟨rfl, hrange⟩ := completes_of_running hx ht
  obtain ⟨hflags, htransfers, -⟩ := isLoad_properties hload
  refine ⟨registersAfter_f hflags, ?_, ?_⟩
  · rw [result_pc, nextPc_of_not_transfers s htransfers]
    exact word_add_toNat s.pc _ (hrange htransfers)
  · generalize i.form = f at hload ⊢
    cases f with
    | ldRegReg | ldRegMem | ldRegImm | ldADirect | ldhAOffset | ldAIndexC =>
      exact .inl ⟨_, fun _ => rfl, rfl, rfl, result_of_register_load rfl rfl⟩
    | ldPairImm => exact .inr (.inl ⟨_, fun _ => rfl, rfl, rfl, result_of_pair_load rfl rfl⟩)
    | ldMemReg | ldMemImm | ldDirectA | ldhOffsetA | ldIndexCA =>
      exact .inr (.inr ⟨_, fun _ => rfl, rfl, rfl, result_of_store rfl rfl⟩)
    | _ => cases hload

end Sys2Proof.Machine
end

section
/-! Accumulator operations, increments and decrements (41_alu.md): the flag computations over numbers, and the state in
which such an instruction completes. -/

namespace Sys2Proof.Machine

/-! ## The flag computations -/

theorem toNat_and_0x0F (a : Byte) : (a &&& 0x0F#8).toNat = a.toNat % 16 := by
  rw [BitVec.toNat_and]
  exact Nat.and_two_pow_sub_one_eq_mod a.toNat 4

theorem isZero_iff {v : Byte} : isZero v = true ↔ v = 0x00#8 := decide_eq_true_iff

theorem isZero_iff_toNat {v : Byte} : isZero v = true ↔ v.toNat = 0 := isZero_iff.trans BitVec.toNat_eq

theorem isZero_sub_iff {a b : Byte} : isZero (a - b) = true ↔ a = b := isZero_iff.trans sub_eq_zero

theorem hcAdd_iff {a b : Byte} : hcAdd a b = true ↔ 16 ≤ a.toNat % 16 + b.toNat % 16 := by
  rw [hcAdd, toNat_and_0x0F, toNat_and_0x0F]
  exact decide_eq_true_iff

theorem cAdd_iff {a b : Byte} : cAdd a b = true ↔ 256 ≤ a.toNat + b.toNat := decide_eq_true_iff

theorem hcSub_iff {a b : Byte} : hcSub a b = true ↔ a.toNat % 16 < b.toNat % 16 := by
  rw [hcSub, toNat_and_0x0F, toNat_and_0x0F]
  exact decide_eq_true_iff

theorem cSub_iff {a b : Byte} : cSub a b = true ↔ a.toNat < b.toNat := decide_eq_true_iff

theorem hcInc_iff {v : Byte} : hcInc v = true ↔ v.toNat % 16 = 15 := by
  rw [hcInc, decide_eq_true_iff, BitVec.toNat_eq, toNat_and_0x0F]
  rfl

theorem hcDec_iff {v : Byte} : hcDec v = true ↔ v.toNat % 16 = 0 := by
  rw [hcDec, decide_eq_true_iff, BitVec.toNat_eq, toNat_and_0x0F]
  rfl

/-! ## A flag that was written, by what its value says -/

section
variable {rf : RegFile} {z n h c : Bool} {p : Prop}

theorem setFlags_flagZ_iff (hz : z = true ↔ p) : (rf.setFlags z n h c).flagZ = true ↔ p := by
  rwa [RegFile.setFlags_flagZ]

theorem setFlags_flagH_iff (hh : h = true ↔ p) : (rf.setFlags z n h c).flagH = true ↔ p := by
  rwa [RegFile.setFlags_flagH]

theorem setFlags_flagC_iff (hc : c = true ↔ p) : (rf.setFlags z n h c).flagC = true ↔ p := by
  rwa [RegFile.setFlags_flagC]

end

/-! ## Differences -/

/-- A difference of bytes is the integer difference mod 256 (41_alu.md R168). -/
theorem byte_sub_toNat (a b : Byte) : ((a - b).toNat : Int) = ((a.toNat : Int) - b.toNat) % 256 := by
  have hb := b.isLt
  rw [BitVec.toNat_sub]
  omega

theorem byte_sub_one_toNat (v : Byte) : (v - 1#8).toNat = (v.toNat + 255) % 256 := by
  rw [BitVec.toNat_sub, Nat.add_comm]
  rfl

theorem isZero_add_one_iff {v : Byte} : isZero (v + 1#8) = true ↔ v.toNat = 255 := by
  have hv := v.isLt
  have hsum : (v + 1#8).toNat = (v.toNat + 1) % 256 := BitVec.toNat_add ..
  rw [isZero_iff_toNat, hsum]
  omega

theorem isZero_sub_one_iff {v : Byte} : isZero (v - 1#8) = true ↔ v.toNat = 1 := isZero_sub_iff.trans BitVec.toNat_eq

theorem word_sub_one_toNat (w : Word) : (w - 1#16).toNat = (w.toNat + 65535) % 65536 := by
  rw [BitVec.toNat_sub, Nat.add_comm]
  rfl

/-! ## The instructions -/

/-- An instruction that reads memory only where it can, stores nothing and forms no stack address completes wherever its
next pc is in the address space. -/
theorem exec_of_registersAfter {f : Form} {s : State} (htransfers : f.transfers = false)
    (hreads : ∀ a ∈ f.readsFrom s, readable a) (hstores : f.stores s = [])
    (hsp : f.stackPointerAfter s = s.sp.toNat) (hl : s.pc.toNat + f.length ≤ 0xFFFF) :
    exec f.toInstr s = .next ((registersAfter f s).setPc (s.pc + BitVec.ofNat 16 f.length)) := by
  have haccesses := accessesSucceed_of_sp hreads (by simp [Form.storesTo, hstores]) hsp
  rw [exec_of_accesses htransfers haccesses hl, result, written_of_no_stores hstores,
    nextPc_of_not_transfers s htransfers]

theorem alu_length (op : AluOp) (src : Src) : (Form.alu op src).length = sourceLength src := by
  cases src <;> rfl

/-- An accumulator operation completes wherever its operand can be read (41_alu.md R166). -/
theorem exec_alu (op : AluOp) {s : State} {src : Src} (hsrc : sourceReadable s src)
    (hl : s.pc.toNat + sourceLength src ≤ 0xFFFF) :
    exec (Form.alu op src).toInstr s =
      .next ((aluWritten op (sourceValue s src) s).setPc (s.pc + BitVec.ofNat 16 (sourceLength src))) := by
  have hreads : ∀ a ∈ (Form.alu op src).readsFrom s, readable a := by
    cases src with
    | mHL => exact List.forall_mem_singleton.mpr (hsrc rfl)
    | reg | imm => exact List.forall_mem_nil _
  rw [← alu_length op] at hl ⊢
  exact exec_of_registersAfter rfl hreads rfl rfl hl

/-- AND, XOR and OR write A and the flags alike but for H (41_alu.md R162 to R164). -/
theorem aluWritten_bitwise {op : AluOp} (h : op = .and ∨ op = .xor ∨ op = .or) (b : Byte) (s : State) :
    ∃ v, aluWritten op b s = (s.writeReg .A v).setFlags (isZero v) false (decide (op = .and)) false := by
  obtain rfl | rfl | rfl := h <;> exact ⟨_, rfl⟩

theorem writeReg_setFlags_setPc_readReg (s : State) (r : Reg) (v : Byte) (z n h c : Bool) (pc : Word) :
    (((s.writeReg r v).setFlags z n h c).setPc pc).readReg r = v := by
  rw [State.setPc_readReg, State.setFlags_readReg, State.writeReg_readReg]

/-- What one register, the flags and the pc were written to is read back from the state, and the rest is as it was. -/
theorem writeReg_setFlags_setPc_eq {s t : State} {r : Reg} {v : Byte} {z n h c : Bool} {pc : Word}
    (ht : t = ((s.writeReg r v).setFlags z n h c).setPc pc) :
    t = { s with regs := { s.regs.write r (t.readReg r) with f := t.regs.f }, pc := pc } := by
  subst ht
  cases r <;> rfl

theorem writePair_setPc_readPair (s : State) (dd : DPair) (v pc : Word) :
    ((s.writePair dd v).setPc pc).readPair dd = v := by
  rw [State.setPc_readPair, State.readPair_writePair]

/-- What one pair and the pc were written to is read back from the state, and the rest is as it was. -/
theorem writePair_setPc_eq {s t : State} {dd : DPair} {v pc : Word} (ht : t = (s.writePair dd v).setPc pc) :
    t = { s.writePair dd (t.readPair dd) with pc := pc } := by
  subst ht
  rw [writePair_setPc_readPair]
  rfl

end Sys2Proof.Machine
end

section
/-! The statements about the accumulator operations, increments and decrements (41_alu.md). -/

namespace Sys2Proof.Machine

/-- Settles O36: the exact state has the sum in A, and each flag computation is its condition on the numbers. -/
theorem addCompletes : Obligations.AddCompletes :=
  fun _ _ hsrc hpc => ⟨_, exec_alu .add hsrc hpc, BitVec.toNat_add .., setFlags_flagZ_iff isZero_iff_toNat,
    RegFile.setFlags_flagN .., setFlags_flagH_iff hcAdd_iff, setFlags_flagC_iff cAdd_iff, rfl,
    word_add_toNat _ _ hpc, aluWritten_low ..⟩

/-- Settles O37: the exact state has the difference in A, which is zero just where the operands are equal. -/
theorem subCompletes : Obligations.SubCompletes :=
  fun _ _ hsrc hpc => ⟨_, exec_alu .sub hsrc hpc, byte_sub_toNat .., setFlags_flagZ_iff isZero_sub_iff,
    RegFile.setFlags_flagN .., setFlags_flagH_iff hcSub_iff, setFlags_flagC_iff cSub_iff, rfl,
    word_add_toNat _ _ hpc, aluWritten_low ..⟩

/-- Settles O38: the exact state has the flags of the subtraction alone. -/
theorem compareCompletes : Obligations.CompareCompletes :=
  fun _ _ hsrc hpc => ⟨_, exec_alu .cp hsrc hpc, setFlags_flagZ_iff isZero_sub_iff, RegFile.setFlags_flagN ..,
    setFlags_flagH_iff hcSub_iff, setFlags_flagC_iff cSub_iff, rfl, word_add_toNat _ _ hpc, aluWritten_low ..⟩

/-- Settles O39: the three operations write A and the flags alike, so only the bits of the result are split by them. -/
theorem bitwiseOperationsComplete : Obligations.BitwiseOperationsComplete := by
  intro s src hsrc hpc op hop
  have hexec := exec_alu op hsrc hpc
  obtain ⟨v, hv⟩ := aluWritten_bitwise hop (sourceValue s src) s
  rw [hv] at hexec
  refine ⟨_, hexec, fun k _ => ?_, setFlags_flagZ_iff isZero_iff, RegFile.setFlags_flagN ..,
    setFlags_flagH_iff decide_eq_true_iff, RegFile.setFlags_flagC .., rfl, word_add_toNat _ _ hpc,
    RegFile.setFlags_low ..⟩
  rw [← hv]
  obtain rfl | rfl | rfl := hop
  · exact BitVec.getLsbD_and
  · exact BitVec.getLsbD_xor
  · exact BitVec.getLsbD_or

/-- Settles O40: INC r and DEC r write back the C they found, and leave F[3:0] as every instruction but POP AF does. -/
theorem incAndDecRegisterComplete : Obligations.IncAndDecRegisterComplete := by
  intro s r hpc
  have hinc := exec_of_registersAfter (f := .incReg r) rfl (List.forall_mem_nil _) rfl rfl hpc
  have hdec := exec_of_registersAfter (f := .decReg r) rfl (List.forall_mem_nil _) rfl rfl hpc
  refine ⟨⟨_, hinc, ?_, setFlags_flagZ_iff isZero_add_one_iff, RegFile.setFlags_flagN .., setFlags_flagH_iff hcInc_iff,
      registersAfter_flagC rfl, writeReg_setFlags_setPc_eq rfl, registersAfter_low Form.noConfusion⟩,
    ⟨_, hdec, ?_, setFlags_flagZ_iff isZero_sub_one_iff, RegFile.setFlags_flagN .., setFlags_flagH_iff hcDec_iff,
      registersAfter_flagC rfl, writeReg_setFlags_setPc_eq rfl, registersAfter_low Form.noConfusion⟩⟩
  · exact (congrArg BitVec.toNat (writeReg_setFlags_setPc_readReg ..)).trans (BitVec.toNat_add ..)
  · exact (congrArg BitVec.toNat (writeReg_setFlags_setPc_readReg ..)).trans (byte_sub_one_toNat _)

/-- Settles O41: neither instruction names F, and the pair reads back what was written. -/
theorem incAndDecPairComplete : Obligations.IncAndDecPairComplete := by
  intro s dd hpc
  have hinc := exec_of_registersAfter (f := .incPair dd) rfl (List.forall_mem_nil _) rfl rfl hpc
  have hdec := exec_of_registersAfter (f := .decPair dd) rfl (List.forall_mem_nil _) rfl rfl hpc
  refine ⟨⟨_, hinc, ?_, registersAfter_f rfl, writePair_setPc_eq rfl⟩,
    ⟨_, hdec, ?_, registersAfter_f rfl, writePair_setPc_eq rfl⟩⟩
  · exact (congrArg BitVec.toNat (writePair_setPc_readPair ..)).trans (BitVec.toNat_add ..)
  · exact (congrArg BitVec.toNat (writePair_setPc_readPair ..)).trans (word_sub_one_toNat _)

end Sys2Proof.Machine
end

section
/-! Control transfers and the stack (42_control.md R191 to R195, 43_stack.md R200 to R202): a call is a push once its
return address is checked, a return is a pop, and each fault is that of the first access that raises one. -/

namespace Sys2Proof.Machine

/-! ## Sequencing -/

/-- A sequence whose first part faults takes that fault. -/
theorem bind_eq_of_error {ε α β : Type} {x : Except ε α} {e : ε} {next : α → Except ε β} (h : x = .error e) :
    (x >>= next) = .error e := by
  rw [h, error_bind]

/-! ## Relative jumps -/

/-- A relative jump whose target is outside the address space faults at the target mod 65536. -/
theorem jumpRelative_error {e : Int} {s : State}
    (h : ¬(0 ≤ (s.pc.toNat : Int) + 2 + e ∧ (s.pc.toNat : Int) + 2 + e ≤ 0xFFFF)) :
    jumpRelative e s = .error (.memoryFault s.pc (u16 (s.pc.toNat + 2 + e)) .read) :=
  bind_eq_of_error (chk_error s _ _ h)

/-! ## Pushes -/

/-- The first stack byte a push writes, at every SP (43_stack.md R202). -/
theorem u16_pushAddress (s : State) : u16 (pushAddress s) = s.sp - 2 := by
  apply BitVec.eq_of_toNat_eq
  have h2 : (2 : Word).toNat = 2 := rfl
  rw [u16, BitVec.toNat_ofInt, BitVec.toNat_sub, pushAddress, h2]
  omega

theorem push16_sp_error {s : State} (v : Word) (h : s.sp.toNat < 2) :
    push16 s v = .error (.memoryFault s.pc (s.sp - 2) .write) := by
  rw [← u16_pushAddress]
  exact bind_eq_of_error (chk_error s _ _ (by unfold pushAddress; omega))

/-- A push whose SP is at least 2 writes its word at SP − 2. -/
theorem push16_eq {s : State} (v : Word) (h : 2 ≤ s.sp.toNat) :
    push16 s v = writeU16 s (s.sp - 2) v >>= fun t => .ok (t.setSp (s.sp - 2)) := by
  have hlt := s.sp.isLt
  rw [push16, chk_ok s _ _ (by unfold pushAddress; omega), ok_bind, u16_pushAddress]

theorem writeU16_low_error {s : State} {a : Word} (v : Word) (h : ¬acceptsWrite s a) :
    writeU16 s a v = .error (.memoryFault s.pc a .write) :=
  bind_eq_of_error (writeU8_not_accepted s a _ h)

/-- The high byte's write sees the state in which the low byte is stored, whose pc and ROM policy are as before. -/
theorem writeU16_high_error {s : State} {a : Word} (v : Word) (ha : a.toNat + 1 ≤ 0xFFFF) (hlow : acceptsWrite s a)
    (hhigh : ¬acceptsWrite s (a + 1#16)) : writeU16 s a v = .error (.memoryFault s.pc (a + 1#16) .write) := by
  have he : u16 ((a.toNat : Int) + 1) = a + 1#16 := u16_add a 1
  rw [writeU16, writeU8_ok s a _ hlow, ok_bind, chk_ok s _ _ (by omega), ok_bind, he]
  exact writeU8_not_accepted (s.setMem _) _ _ hhigh

theorem push16_low_error {s : State} (v : Word) (hsp : 2 ≤ s.sp.toNat) (h : ¬acceptsWrite s (s.sp - 2)) :
    push16 s v = .error (.memoryFault s.pc (s.sp - 2) .write) :=
  (push16_eq v hsp).trans (bind_eq_of_error (writeU16_low_error v h))

theorem push16_high_error {s : State} (v : Word) (hsp : 2 ≤ s.sp.toNat) (hlow : acceptsWrite s (s.sp - 2))
    (hhigh : ¬acceptsWrite s (s.sp - 1)) : push16 s v = .error (.memoryFault s.pc (s.sp - 1) .write) := by
  have hlt := s.sp.isLt
  obtain ⟨-, hn, hnext, -⟩ := push_addresses hsp
  rw [← hnext] at hhigh ⊢
  exact (push16_eq v hsp).trans (bind_eq_of_error (writeU16_high_error v (by omega) hlow hhigh))

/-- Where both stack bytes have storage, the word that was pushed stands at the new SP, low byte first. -/
theorem push16_stack_bytes {s t : State} {v : Word} (h : push16 s v = .ok t) (hlow : storable (s.sp - 2))
    (hhigh : storable (s.sp - 1)) :
    t.sp = s.sp - 2 ∧ t.mem.read t.sp.toNat = loByte v ∧ t.mem.read (t.sp.toNat + 1) = hiByte v := by
  obtain ⟨hsp, -⟩ := push16_cases h
  obtain ⟨-, hn2, -, hn1⟩ := push_addresses hsp
  rw [push16_ok s v hsp (.inl hlow) (.inl hhigh)] at h
  obtain rfl := Except.ok.inj h
  have hnext : (s.sp - 2).toNat + 1 = (s.sp - 1).toNat := by omega
  refine ⟨rfl, ?_, ?_⟩
  · show (memoryAfter (memoryAfter s.mem (s.sp - 2) (loByte v)) (s.sp - 1) (hiByte v)).read (s.sp - 2).toNat = _
    rw [memoryAfter_read_ne _ _ _ (by omega), memoryAfter_storable _ _ hlow, Memory.read_write_same]
  · show (memoryAfter _ (s.sp - 1) (hiByte v)).read ((s.sp - 2).toNat + 1) = _
    rw [hnext, memoryAfter_storable _ _ hhigh, Memory.read_write_same]

/-! ## Calls -/

/-- A CALL whose return address is in the address space is a push of it and a jump. -/
theorem call_eq {s : State} (nn : Word) (h : s.pc.toNat + 3 ≤ 0xFFFF) :
    call nn s = push16 s (s.pc + 3) >>= fun t => .ok (t.setPc nn) := by
  have he : u16 ((s.pc.toNat : Int) + 3) = s.pc + 3 := u16_add s.pc 3
  rw [call, chk_ok s _ _ (by omega), ok_bind, he]

theorem call_past_end {s : State} (nn : Word) (h : 0xFFFF < s.pc.toNat + 3) :
    call nn s = .error (.memoryFault s.pc (s.pc + 3) .read) := by
  have he : u16 ((s.pc.toNat : Int) + 3) = s.pc + 3 := u16_add s.pc 3
  rw [← he]
  exact bind_eq_of_error (chk_error s _ _ (by omega))

theorem exec_call {s t : State} (nn : Word) (hpc : s.pc.toNat + 3 ≤ 0xFFFF) (h : push16 s (s.pc + 3) = .ok t) :
    exec (Form.call nn).toInstr s = .next (t.setPc nn) :=
  exec_ok (f := .call nn) ((call_eq nn hpc).trans (bind_eq_of_ok h))

/-- A push that faults for every word does so in PUSH, and in CALL once its return address is checked. -/
theorem exec_push_fault {s : State} {r : FaultRecord} (qq : QPair) (nn : Word) (h : ∀ v, push16 s v = .error r) :
    exec (Form.push qq).toInstr s = .next { s with status := .faulted r } ∧
    (s.pc.toNat + 3 ≤ 0xFFFF → exec (Form.call nn).toInstr s = .next { s with status := .faulted r }) :=
  ⟨exec_error (f := .push qq) (bind_eq_of_error (h _)),
    fun hpc => exec_error (f := .call nn) ((call_eq nn hpc).trans (bind_eq_of_error (h _)))⟩

/-! ## Pops and returns -/

/-- A RET both of whose stack bytes are readable goes to the word they hold and raises SP. -/
theorem exec_ret {s : State} (h : s.sp.toNat + 2 ≤ 0xFFFF) (hlow : readable s.sp) (hhigh : readable (s.sp + 1#16)) :
    exec Form.ret.toInstr s = .next ((s.setSp (s.sp + 2#16)).setPc
      (wordOf (s.mem.read (s.sp.toNat + 1)) (s.mem.read s.sp.toNat))) :=
  exec_ok (f := .ret) (bind_eq_of_ok (pop16_ok s h hlow hhigh))

/-- A pop at 0xFFFE raises SP, and one at 0xFFFF reads its high byte, out of the address space (decision D17). -/
theorem pop16_past_end {s : State} (h : 0xFFFE ≤ s.sp.toNat) :
    pop16 s = .error (.memoryFault s.pc 0x0000#16 .read) := by
  have hlt := s.sp.isLt
  obtain hsp | hsp : s.sp = 0xFFFE#16 ∨ s.sp = 0xFFFF#16 := by bv_omega
  · rw [pop16, hsp, readU16_ok s _ (by decide) (by decide) (by decide), ok_bind]
    exact bind_eq_of_error (chk_error s _ _ (by decide))
  · rw [pop16, hsp]
    exact bind_eq_of_error (readU16_past_end s)

/-- A pop that faults does so in POP and in RET. -/
theorem exec_pop_fault {s : State} {f : Form} {qq : QPair} {r : FaultRecord} (hf : f = .pop qq ∨ f = .ret)
    (h : pop16 s = .error r) : exec f.toInstr s = .next { s with status := .faulted r } := by
  obtain rfl | rfl := hf
  · exact exec_error (f := .pop qq) (bind_eq_of_error h)
  · exact exec_error (f := .ret) (bind_eq_of_error h)

end Sys2Proof.Machine
end

section
/-! The statements about the control transfers (42_control.md) and the faults of the stack (43_stack.md). -/

namespace Sys2Proof.Machine

/-- Settles O43: the target, or where the jump is not taken the next pc, is checked before the pc moves. -/
theorem relativeJumpOutOfRangeFaults : Obligations.RelativeJumpOutOfRangeFaults := by
  refine fun s e => ⟨fun h => ?_, fun cc hpc hc => ?_⟩
  · have hjump := jumpRelative_error h
    exact ⟨exec_error (f := .jr e) hjump, fun cc hc => exec_error (f := .jrCond cc e) ((jrCond_taken e hc).trans hjump)⟩
  · exact exec_error (f := .jrCond cc e) ((jrCond_not_taken e hc).trans (advance_error s 2 hpc))

/-- Settles O44: the call pushes the return address, both of whose bytes are accepted. -/
theorem callCompletes : Obligations.CallCompletes :=
  fun s nn hpc hsp hlow hhigh => exec_call nn hpc (push16_ok s (s.pc + 3) hsp hlow hhigh)

/-- Settles O45: the return pops the word on top of the stack into the pc. -/
theorem returnCompletes : Obligations.ReturnCompletes :=
  fun _ hsp hlow hhigh => ⟨_, exec_ret hsp hlow hhigh, wordOf_toNat .., rfl⟩

/-- Settles O46: the callee leaves SP at the two bytes of the return address that the call pushed. -/
theorem returnGoesBackBehindTheCall : Obligations.ReturnGoesBackBehindTheCall := by
  intro s t u nn hpc hsp hlow hhigh hcall husp hulow huhigh
  obtain ⟨-, hn, hnext, -⟩ := push_addresses hsp
  have hlt := s.sp.isLt
  obtain ⟨p, hpush⟩ : ∃ p, push16 s (s.pc + 3) = .ok p := ⟨_, push16_ok s _ hsp (.inl hlow) (.inl hhigh)⟩
  obtain ⟨hpsp, hplow, hphigh⟩ := push16_stack_bytes hpush hlow hhigh
  rw [exec_call nn hpc hpush] at hcall
  injection hcall with ht
  subst ht
  rw [State.setPc_sp] at husp hulow huhigh
  have husp2 : u.sp = s.sp - 2 := husp.trans hpsp
  have hlowr : readable u.sp := husp2 ▸ readable_of_storable hlow
  have hhighr : readable (u.sp + 1#16) := by rw [husp2, hnext]; exact readable_of_storable hhigh
  refine ⟨_, exec_ret (by rw [husp2]; omega) hlowr hhighr, ?_, ?_, rfl⟩
  · rw [State.setPc_pc, husp, hulow, huhigh, State.setPc_mem, hplow, hphigh, wordOf_hi_lo]
  · rw [State.setPc_sp, State.setSp_sp, husp2]
    exact BitVec.sub_add_cancel ..

/-- Settles O50: each fault is the first that the push or the pop raises, and CALL checks its return address first. -/
theorem stackFaultsComeInOrder : Obligations.StackFaultsComeInOrder := by
  refine fun s qq nn => ⟨fun hsp => exec_push_fault qq nn fun v => push16_sp_error v hsp,
    fun hsp hlow => exec_push_fault qq nn fun v => push16_low_error v hsp hlow,
    fun hsp hlow hhigh => exec_push_fault qq nn fun v => push16_high_error v hsp hlow hhigh,
    fun hpc => exec_error (f := .call nn) (call_past_end nn hpc),
    fun f hf => ⟨fun hlow => ?_, fun hlow hsp hhigh => ?_, fun hsp => exec_pop_fault hf (pop16_past_end hsp)⟩⟩
  · exact exec_pop_fault hf (bind_eq_of_error (readU16_low_error s hlow))
  · have hne : s.sp ≠ 0xFFFF#16 := fun he => absurd hsp (by rw [he]; decide)
    exact exec_pop_fault hf (bind_eq_of_error (readU16_high_error s hlow hne hhigh))

end Sys2Proof.Machine
end

section
/-! PUSH and POP that complete (43_stack.md R200, R201), and the pair that a pop gives back (R203). -/

namespace Sys2Proof.Machine

/-- Of a state, a push writes memory and SP only, so not the registers or the status (43_stack.md R202). -/
theorem push16_keeps {s t : State} {v : Word} (h : push16 s v = .ok t) : t.regs = s.regs ∧ t.status = s.status := by
  rw [push16_result h]
  exact ⟨rfl, rfl⟩

/-- A PUSH whose push succeeds moves the pc on from there. -/
theorem exec_push {s t : State} {qq : QPair} (hpc : s.pc.toNat + 1 ≤ 0xFFFF)
    (h : push16 s (s.readStackPair qq) = .ok t) :
    exec (Form.push qq).toInstr s = .next (t.setPc (s.pc + 1#16)) := by
  have htpc := push16_pc h
  have hadvance := advance_ok t 1 (htpc ▸ hpc)
  rw [htpc] at hadvance
  exact exec_ok (f := .push qq) ((bind_eq_of_ok h).trans hadvance)

/-- A POP both of whose stack bytes are readable writes the word they hold to its pair and raises SP. -/
theorem exec_pop {s : State} (qq : QPair) (hpc : s.pc.toNat + 1 ≤ 0xFFFF) (hsp : s.sp.toNat + 2 ≤ 0xFFFF)
    (hlow : readable s.sp) (hhigh : readable (s.sp + 1#16)) :
    exec (Form.pop qq).toInstr s = .next (((s.setSp (s.sp + 2#16)).writeStackPair qq
      (wordOf (s.mem.read (s.sp.toNat + 1)) (s.mem.read s.sp.toNat))).setPc (s.pc + 1#16)) := by
  refine exec_ok (f := .pop qq) ((bind_eq_of_ok (pop16_ok s hsp hlow hhigh)).trans ((advance_ok _ 1 ?_).trans ?_))
  · rwa [State.writeStackPair_pc, State.setSp_pc]
  · rw [State.writeStackPair_pc, State.setSp_pc]

/-- The mask of POP AF keeps an F whose low four bits are zero (10_state.md R44). -/
theorem and_0xF0_of_low_zero {f : Byte} (h : f &&& 0x0F#8 = 0x00#8) : f &&& 0xF0#8 = f :=
  calc f &&& 0xF0#8 = f &&& 0xF0#8 ||| f &&& 0x0F#8 := by rw [h, BitVec.or_zero]
    _ = f &&& (0xF0#8 ||| 0x0F#8) := BitVec.and_or_distrib_left.symm
    _ = f := BitVec.and_allOnes

/-- Writing a pair with its own value changes nothing; for AF this needs F[3:0] = 0, since that write clears them. -/
theorem State.writeStackPair_readStackPair {s : State} (qq : QPair) (h : s.regs.lowNibbleZero) :
    s.writeStackPair qq (s.readStackPair qq) = s := by
  cases qq with
  | AF => simp [State.writeStackPair, State.readStackPair, State.setRegs, and_0xF0_of_low_zero h]
  | BC | DE | HL => simp [State.writeStackPair, State.readStackPair, State.setRegs]

/-- A POP where the value of its pair stands on the stack raises SP and moves the pc on, and changes nothing else. -/
theorem exec_pop_own_pair {s : State} {qq : QPair} (hregs : s.regs.lowNibbleZero) (hpc : s.pc.toNat + 1 ≤ 0xFFFF)
    (hsp : s.sp.toNat + 2 ≤ 0xFFFF) (hlow : readable s.sp) (hhigh : readable (s.sp + 1#16))
    (hlo : s.mem.read s.sp.toNat = loByte (s.readStackPair qq))
    (hhi : s.mem.read (s.sp.toNat + 1) = hiByte (s.readStackPair qq)) :
    exec (Form.pop qq).toInstr s = .next ((s.setSp (s.sp + 2#16)).setPc (s.pc + 1#16)) := by
  have hsame : (s.setSp (s.sp + 2#16)).writeStackPair qq (s.readStackPair qq) = s.setSp (s.sp + 2#16) :=
    State.writeStackPair_readStackPair (s := s.setSp (s.sp + 2#16)) qq hregs
  rw [exec_pop qq hpc hsp hlow hhigh, hlo, hhi, wordOf_hi_lo, hsame]

end Sys2Proof.Machine
end

section
/-! The statements about PUSH and POP that complete (43_stack.md). -/

namespace Sys2Proof.Machine

/-- Settles O47: the push stores the pair, both of whose bytes are accepted, and then the pc moves on. -/
theorem pushCompletes : Obligations.PushCompletes :=
  fun s qq hpc hsp hlow hhigh => exec_push hpc (push16_ok s (s.readStackPair qq) hsp hlow hhigh)

/-- Settles O48: the pair's halves are the two bytes of the popped word, and F its low byte under the mask. -/
theorem popCompletes : Obligations.PopCompletes := by
  intro s hpc hsp hlow hhigh
  have hpop := fun qq => exec_pop qq hpc hsp hlow hhigh
  refine ⟨?_, ?_, ?_, ?_⟩ <;>
    rw [hpop, State.writeStackPair, hiByte_wordOf, loByte_wordOf] <;> rfl

/-- Settles O49: the pushed pair stands at the new SP, so the pop writes to the pair the value that it still holds. -/
theorem popAfterPushGivesThePairBack : Obligations.PopAfterPushGivesThePairBack := by
  intro s qq hinv hpc hsp hlow hhigh
  obtain ⟨-, -, hzero, -⟩ := hinv
  obtain ⟨-, hn, hnext, -⟩ := push_addresses hsp
  have hlt := s.sp.isLt
  obtain ⟨p, hpush⟩ : ∃ p, push16 s (s.readStackPair qq) = .ok p := ⟨_, push16_ok s _ hsp (.inl hlow) (.inl hhigh)⟩
  obtain ⟨hpsp, hplow, hphigh⟩ := push16_stack_bytes hpush hlow hhigh
  obtain ⟨hpregs, hpstatus⟩ := push16_keeps hpush
  have hpair : (p.setPc (s.pc + 1#16)).readStackPair qq = s.readStackPair qq := by
    simp [State.readStackPair, hpregs]
  have hpop : exec (Form.pop qq).toInstr (p.setPc (s.pc + 1#16)) = _ := exec_pop_own_pair
    (by simpa [hpregs] using hzero)
    (by rw [State.setPc_pc, word_add_one_toNat _ (by omega)]; omega)
    (by rw [State.setPc_sp, hpsp]; omega)
    (by rw [State.setPc_sp, hpsp]; exact readable_of_storable hlow)
    (by rw [State.setPc_sp, hpsp, hnext]; exact readable_of_storable hhigh)
    (hplow.trans (congrArg loByte hpair.symm))
    (hphigh.trans (congrArg hiByte hpair.symm))
  refine ⟨_, _, exec_push (by omega) hpush, hpop, hpair, ?_, hpregs, hpstatus⟩
  rw [State.setPc_sp, State.setSp_sp, State.setPc_sp, hpsp]
  exact BitVec.sub_add_cancel ..

end Sys2Proof.Machine
end

section
/-! RES, NOP and DI (44_bit_reset.md R210, 45_misc.md R215, R216): none of them accesses memory, and the value that RES
writes is its operand with one bit cleared. -/

namespace Sys2Proof.Machine

/-- Masking with the complement of a single bit clears that bit and keeps every other (44_bit_reset.md R210). -/
theorem getLsbD_and_not_bit {w k : Nat} (v : BitVec w) (b : Nat) (hk : k < w) :
    (v &&& ~~~(1#w <<< b)).getLsbD k = if k = b then false else v.getLsbD k := by
  rw [← BitVec.twoPow_eq, BitVec.getLsbD_and, BitVec.getLsbD_not, BitVec.getLsbD_twoPow, decide_eq_true hk,
    Bool.true_and]
  obtain rfl | hne := eq_or_ne k b
  · simp [hk]
  · simp [hne, hne.symm]

/-- Settles O51: none of the three accesses memory, so each completes wherever the next pc is in the address space, and
RES writes its register under a mask of one bit. -/
theorem bitResetNopAndDiComplete : Obligations.BitResetNopAndDiComplete := by
  refine fun s => ⟨fun hpc b r => ⟨s.readReg r &&& ~~~(1#8 <<< b.val), ?_, ?_⟩, fun hpc => ⟨?_, ?_⟩⟩
  · exact exec_of_registersAfter (f := .res b r) rfl (List.forall_mem_nil _) rfl rfl hpc
  · exact fun k hk => getLsbD_and_not_bit (s.readReg r) b.val hk
  · exact exec_of_registersAfter (f := .nop) rfl (List.forall_mem_nil _) rfl rfl hpc
  · exact exec_of_registersAfter (f := .di) rfl (List.forall_mem_nil _) rfl rfl hpc

end Sys2Proof.Machine
end

section
/-! Steps that end in a fault, and the terminal states (60_exceptions.md R221, R222, R226, R230). -/

namespace Sys2Proof.Machine

/-! ## Undefined opcodes -/

/-- An Undefined byte faults before any operand is fetched (60_exceptions.md R221). -/
theorem fetchForm_undefinedPrimary {s : State} {b : Byte} (h : fetchByte s 0 = .ok b) (hb : b ≠ escapeByte)
    (hd : decodePrimary b = none) : fetchForm s = .error (.decodeFault s.pc [b]) := by
  rw [fetchForm_of_first_byte h, if_neg hb, fetchPrimary, hd]

/-- An Undefined byte after the escape byte faults with both bytes (60_exceptions.md R222). -/
theorem fetchForm_undefinedExtended {s : State} {b : Byte} (h0 : fetchByte s 0 = .ok escapeByte)
    (h1 : fetchByte s 1 = .ok b) (hd : decodeExtended b = none) :
    fetchForm s = .error (.decodeFault s.pc [escapeByte, b]) := by
  rw [fetchForm_of_escapeByte h0, fetchExtended, h1, ok_bind, hd]

/-- A fault of the fetch is that of the instruction, and a running machine takes it (60_exceptions.md R227). -/
theorem fetch_fault_taken {s : State} {r : FaultRecord} (h : fetchForm s = .error r) :
    fetchInstr s = .error r ∧
      (s.status = .running → s.romLoaded = true → s.stopRequest = false →
        ∃ t, step s = .next t ∧ t.status = .faulted r) :=
  ⟨fetchInstr_error h, fun hs hl hr => ⟨takeFault s r, step_of_fetch_error hs hl hr h, takeFault_status s r⟩⟩

/-- Settles O6: the opcode bytes are fetched, and the table's answer to the last of them is the fault. -/
theorem undefinedOpcodeRaisesDecodeFault : Obligations.UndefinedOpcodeRaisesDecodeFault := by
  refine ⟨fun s b hcode hb hd => fetch_fault_taken ?_, fun s b hcode hd => fetch_fault_taken ?_⟩
  · exact fetchForm_undefinedPrimary (fetchByte_codeAt hcode rfl) hb (Option.isNone_iff_eq_none.mp hd)
  · exact fetchForm_undefinedExtended (fetchByte_codeAt hcode rfl) (fetchByte_codeAt hcode rfl)
      (Option.isNone_iff_eq_none.mp hd)

/-! ## The state after a fault -/

/-- A record that is about the instruction at an address names that address (60_exceptions.md R225). -/
theorem pc_of_consistent {r : FaultRecord} {pc : Word} (h : (Status.faulted r).consistent pc = true) : r.pc = pc := by
  cases r with
  | decodeFault p bytes =>
    obtain ⟨hpc, -⟩ := Bool.and_eq_true_iff.mp h
    exact of_decide_eq_true hpc
  | memoryFault p a k => exact of_decide_eq_true h

/-- A step that ends in a fault has taken a fault of its fetch or of its instruction, in the state before it
(60_exceptions.md R226). -/
theorem step_faulted {s t : State} {record : FaultRecord} (h : step s = .next t) (ht : t.status = .faulted record) :
    t = takeFault s record ∧
      (fetchInstr s = .error record ∨ ∃ i, fetchInstr s = .ok i ∧ effect i.form s = .error record) := by
  obtain ⟨hs, -, ⟨-, rfl⟩ | ⟨-, r, hf, rfl⟩ | ⟨-, i, hf, hx⟩⟩ := step_cases h
  · cases ht
  · cases ht
    exact ⟨rfl, .inl hf⟩
  · obtain hok | ⟨r, he, rfl⟩ := exec_cases hx
    · obtain ⟨hstatus, -⟩ := State.control_eq_iff.mp (effect_control hok)
      cases ht.symm.trans (hstatus.trans hs)
    · cases ht
      exact ⟨rfl, .inr ⟨i, hf, he⟩⟩

/-- Settles O11: the fault is taken in the state before the step, and both the fetch and an instruction raise at the
pc. -/
theorem faultCommitsNothing : Obligations.FaultCommitsNothing := by
  intro s t record h ht
  obtain ⟨rfl, hf | ⟨i, -, he⟩⟩ := step_faulted h ht
  · exact ⟨rfl, pc_of_consistent (raisesAt_fetchInstr s record hf)⟩
  · exact ⟨rfl, pc_of_consistent (raisesAt_effect i.form s record he)⟩

/-! ## The terminal states -/

/-- Settles O9: the step looks at the status first, and goes on from Running alone. -/
theorem terminalStatesHaveNoStep : Obligations.TerminalStatesHaveNoStep := by
  refine ⟨fun s record h => ?_, fun s h => ?_⟩
  · simp only [step, interpStep, h]
  · simp only [step, interpStep, h]

end Sys2Proof.Machine
end

section
/-! The end of the address space: the next pc is checked after the accesses, and the fault it raises discards what they
wrote (70_reset_and_hazards.md R256; 60_exceptions.md R226). -/

namespace Sys2Proof.Machine

@[simp] theorem written_pc (f : Form) (s : State) : (written f s).pc = s.pc := by
  rw [written, State.setMem_pc, registersAfter_pc]

/-- An instruction whose accesses succeed ends in the fault of its next pc where that is past the address space
(70_reset_and_hazards.md R256). -/
theorem effect_past_end {f : Form} {s : State} (hf : f.transfers = false) (h : f.AccessesSucceed s)
    (hl : 0xFFFF < s.pc.toNat + f.length) :
    effect f s = .error (.memoryFault s.pc (s.pc + BitVec.ofNat 16 f.length) .read) := by
  rw [effect_of_accesses hf h, advance_error _ _ (by rwa [written_pc]), written_pc]

/-- Settles O52: the accesses of the form succeed, the check of its next pc raises, and the fault is taken in the state
before the instruction. -/
theorem nextPcPastTheEndFaults : Obligations.NextPcPastTheEndFaults := by
  intro i s htransfers haccesses hpc
  rw [exec_eq_commit, effect_past_end htransfers haccesses hpc]
  rfl

end Sys2Proof.Machine
end
